-- ==== Sys2Proof/Word.lean ====
section
/-! DEFINITION. Word.lean: the bit vectors that travel on the PD16's serial ports, and the numbers of its
districts, feeds, chain entries and ring positions (spec 00, "Units and Fixed Quantities"). -/

namespace Sys2Proof

/-- One byte on a serial line, in a response or in an event entry. -/
abbrev Byte := BitVec 8

/-- A 16-bit quantity: a mask of districts, a settings value, a time stamp. -/
abbrev Half := BitVec 16

/-- A district number, 0 to 15. -/
abbrev DistrictId := Fin 16

/-- A feed number, 0 to 3. -/
abbrev FeedId := Fin 4

/-- A chain table index, 0 to 63. -/
abbrev EntryId := Fin 64

/-- A position in the event ring, 0 to 127. -/
abbrev RingPos := Fin 128

end Sys2Proof
end

