-- ==== Sys2Proof/Config.lean ====
section
/-! DEFINITION. Config.lean: the fixed figures of the part (spec 00, "Units and Fixed Quantities") and the one
value the spec leaves open. -/

namespace Sys2Proof.Config

/-- Full scale of the current-sense input (R27). -/
def fullScale : Nat := 1023

/-- Samples in the rolling window (R30). -/
def windowLength : Nat := 8

/-- Saturation of the soak accumulator E (R62). -/
def soakMax : Nat := 65535

/-- Limit of the running charge (R40). -/
def chargeMax : Nat := 4294967295

/-- Limit of the running count (R40). -/
def countMax : Nat := 16777215

/-- Entries of the event ring, and the largest unread count (R166). -/
def ringSize : Nat := 128

/-- The first byte of a request frame (R157). -/
def syncRequest : Byte := 0x5C

/-- The first byte of a response frame (R157). -/
def syncResponse : Byte := 0xC5

/-- The inter-byte timeout in milliseconds (R158). -/
def interByteMs : Nat := 5

/-- The largest LEN of a request frame (R157). -/
def requestLenMax : Nat := 33

/-- The longest time a store write takes, in milliseconds (R171). -/
def storeWriteMs : Nat := 60

/-- The step count at which a walk must be in a loop (R125). -/
def walkStepLimit : Nat := 65

/-- FREE VALUE (log 6): whether the read-back of the n-th store write matches its capture, for a write that
ends by itself at the 60 ms limit. The spec (R171) leaves both outcomes open; nothing is known of this value. -/
opaque readBackMatches (n : Nat) : Bool

end Sys2Proof.Config
end

