-- ==== Sys2Proof/Syntax.lean ====
section
/-! DEFINITION. Syntax.lean: the commands of spec/opcode_table.json, one constructor a row, and their operands. -/

namespace Sys2Proof

/-- The three control ports (R156). -/
inductive Port where
  | a | b | c
deriving DecidableEq, Repr

/-- The role a port takes from its straps (R156). -/
inductive Role where
  | disabled | watch | operate | full
deriving DecidableEq, Repr

/-- The level of a booster fault input: low is FAULTED, high is HEALTHY (R96). -/
inductive Level where
  | faulted | healthy
deriving DecidableEq, Repr

/-- What the part samples when a reset ends (R96, R156, R172): the two role straps of each port (first named
strap the high bit), the AUTOST strap (`true` is high) and the four fault inputs. -/
structure StartPins where
  roleA : BitVec 2
  roleB : BitVec 2
  roleC : BitVec 2
  autost : Bool
  flt0 : Level
  flt1 : Level
  flt2 : Level
  flt3 : Level
deriving DecidableEq, Repr

/-- The ten parameter bytes of SET-CHAIN-ENTRY after its index (R147), as sent. -/
structure EntryBytes where
  feed : Byte
  count : Byte
  member0 : Byte
  member1 : Byte
  member2 : Byte
  member3 : Byte
  pause : Half
  keepPause : Byte
  link : Byte
deriving DecidableEq, Repr

/-- The requests a master may send (R161). -/
inductive Command where
  | readDistrict | readDistrictStats | readFeed | readQueue | readSettings | readChainEntry
  | readSnapshot | readEvents | readPortStatus | setAttention
  | enable | disable | hold | release | clear | markSeen | snapshot | snapshotKeep
  | setDistrict | setFeed | setChainEntry | apply | applyChains | save | cycleFeed
  | haltWalk | resumeWalk | endWalk | clearWalkErrors | releaseForeign | resetStats
deriving DecidableEq, Repr

/-- One row of spec/opcode_table.json each. A request names the port it came from; its other operands are its
parameter bytes (R161), two-byte values joined. -/
inductive Instr where
  /-- POWER_ON (R172): a POWER-ON start ends with these levels at the pins. -/
  | powerOn (pins : StartPins)
  /-- RESET_PIN (R172): a RESET-PIN start ends with these levels at the pins. -/
  | resetPin (pins : StartPins)
  /-- SAMPLE_ARRIVAL (R27, R29): the current at CSn in sense counts, before the scanner's clamp. -/
  | sampleArrival (d : DistrictId) (level : Int)
  /-- COOL_DOWN_EXPIRY (R49). -/
  | coolDownExpiry (d : DistrictId)
  /-- SETTLE_EXPIRY (R20). -/
  | settleExpiry (d : DistrictId)
  /-- DEAD_TIME_EXPIRY (R83). -/
  | deadTimeExpiry (d : DistrictId)
  /-- LINE_CHANGE (R98): the FLTn input takes this level. -/
  | lineChange (f : FeedId) (level : Level)
  /-- DEBOUNCE_EXPIRY (R103). -/
  | debounceExpiry (f : FeedId)
  /-- PAUSE_EXPIRY (R130). -/
  | pauseExpiry (f : FeedId)
  /-- LINGER_EXPIRY (R168). -/
  | lingerExpiry (p : Port)
  /-- INTER_BYTE_TIMEOUT (R158). -/
  | interByteTimeout (p : Port)
  /-- RX_BYTE (R158): a byte on RXn; `stopBit` is false where its stop bit is missing. -/
  | rxByte (p : Port) (byte : Byte) (stopBit : Bool)
  /-- RESPONSE_END (R158): the last byte of the port's response has been sent. -/
  | responseEnd (p : Port)
  /-- STORE_WRITE_END (R171): the write ends; `matched` says how its read-back compared. -/
  | storeWriteEnd (matched : Bool)
  /-- READ_DISTRICT (R26). -/
  | readDistrict (p : Port) (number : Byte)
  /-- READ_DISTRICT_STATS (R25). -/
  | readDistrictStats (p : Port) (number : Byte)
  /-- READ_FEED (R119, R143). -/
  | readFeed (p : Port) (number : Byte)
  /-- READ_QUEUE (R118). -/
  | readQueue (p : Port) (number : Byte)
  /-- READ_SETTINGS (R155). -/
  | readSettings (p : Port) (selector number image : Byte)
  /-- READ_CHAIN_ENTRY (R121). -/
  | readChainEntry (p : Port) (index image : Byte)
  /-- READ_SNAPSHOT (R46). -/
  | readSnapshot (p : Port) (number : Byte)
  /-- READ_EVENTS (R167). -/
  | readEvents (p : Port) (count : Byte)
  /-- READ_PORT_STATUS (R164). -/
  | readPortStatus (p : Port) (clearOption : Byte)
  /-- SET_ATTENTION (R169). -/
  | setAttention (p : Port) (trigger linger : Byte)
  /-- ENABLE (R10). -/
  | enable (p : Port) (mask : Half)
  /-- DISABLE (R11). -/
  | disable (p : Port) (mask : Half)
  /-- HOLD (R12). -/
  | hold (p : Port) (mask : Half)
  /-- RELEASE (R13). -/
  | release (p : Port) (mask : Half)
  /-- RELEASE_FOREIGN (R14). -/
  | releaseForeign (p : Port) (mask : Half) (named : Byte)
  /-- CLEAR (R15). -/
  | clear (p : Port) (mask : Half)
  /-- MARK_SEEN (R16). -/
  | markSeen (p : Port) (mask : Half)
  /-- RESET_STATS (R17). -/
  | resetStats (p : Port) (mask : Half)
  /-- SNAPSHOT (R43). -/
  | snapshot (p : Port)
  /-- SNAPSHOT_KEEP (R44). -/
  | snapshotKeep (p : Port)
  /-- SET_DISTRICT (R145). -/
  | setDistrict (p : Port) (number field : Byte) (value : Half)
  /-- SET_FEED (R146). -/
  | setFeed (p : Port) (number field : Byte) (value : Half)
  /-- SET_CHAIN_ENTRY (R147). -/
  | setChainEntry (p : Port) (index : Byte) (entry : EntryBytes)
  /-- APPLY (R148). -/
  | apply (p : Port) (districts : Half) (feeds : Byte)
  /-- APPLY_CHAINS (R154). -/
  | applyChains (p : Port)
  /-- SAVE (R171). -/
  | save (p : Port)
  /-- CYCLE_FEED (R116). -/
  | cycleFeed (p : Port) (number : Byte)
  /-- HALT_WALK (R134). -/
  | haltWalk (p : Port) (number : Byte)
  /-- RESUME_WALK (R135). -/
  | resumeWalk (p : Port) (number : Byte)
  /-- END_WALK (R136). -/
  | endWalk (p : Port) (number : Byte)
  /-- CLEAR_WALK_ERRORS (R137). -/
  | clearWalkErrors (p : Port) (number : Byte)
  /-- RESET_ASSERTED (R172): RESETN falls. -/
  | resetAsserted
deriving DecidableEq, Repr

end Sys2Proof
end

