-- ==== Sys2Proof/Machine/Bytes.lean ====
section
/-! DEFINITION. Machine/Bytes.lean: byte order, codes of ports and the sum check of a frame. Two-byte figures go
low byte first in every frame, response and entry (R26, R157, R165). -/

namespace Sys2Proof.Machine

/-- A number as one byte. -/
def byteOf (n : Nat) : Byte := BitVec.ofNat 8 n

/-- A number as a 16-bit quantity. -/
def halfOf (n : Nat) : Half := BitVec.ofNat 16 n

/-- A flag as a number. -/
def bit (b : Bool) : Nat := if b then 1 else 0

/-- The low byte of a 16-bit quantity. -/
def lowByte (h : Half) : Byte := h.extractLsb' 0 8

/-- The high byte of a 16-bit quantity. -/
def highByte (h : Half) : Byte := h.extractLsb' 8 8

/-- A 16-bit quantity from its low and its high byte. -/
def joinBytes (lo hi : Byte) : Half := hi ++ lo

/-- The two bytes of a 16-bit quantity, low byte first. -/
def halfBytes (h : Half) : List Byte := [lowByte h, highByte h]

/-- A number in two bytes, low byte first. -/
def twoBytes (n : Nat) : List Byte := [byteOf n, byteOf (n / 256)]

/-- A number in three bytes, low byte first. -/
def threeBytes (n : Nat) : List Byte := [byteOf n, byteOf (n / 256), byteOf (n / 65536)]

/-- A number in four bytes, low byte first. -/
def fourBytes (n : Nat) : List Byte :=
  [byteOf n, byteOf (n / 256), byteOf (n / 65536), byteOf (n / 16777216)]

/-- The sum of bytes modulo 256 (R157). -/
def byteSum (bs : List Byte) : Byte := bs.foldr (· + ·) 0

/-- The CHECK byte that makes the sum of the covered bytes and itself a multiple of 256 (R157). -/
def checkOf (bs : List Byte) : Byte := 0 - byteSum bs

/-- The code of a port: 0 A, 1 B, 2 C (R46, R161, R165). -/
def portCode : Port → Byte
  | .a => 0
  | .b => 1
  | .c => 2

/-- The port a port parameter names, if any (R14, R161). -/
def portOfCode (b : Byte) : Option Port :=
  if b = 0 then some .a else if b = 1 then some .b else if b = 2 then some .c else none

/-- The code of a role (R164). -/
def roleCode : Role → Nat
  | .disabled => 0
  | .watch => 1
  | .operate => 2
  | .full => 3

/-- The role two straps give, the first named strap the high digit (R156). -/
def roleOfStraps (straps : BitVec 2) : Role :=
  if straps = 0 then .disabled else if straps = 1 then .watch else if straps = 2 then .operate else .full

end Sys2Proof.Machine
end

