-- ==== Sys2Proof/Decode.lean ====
section
/-! DEFINITION. Decode.lean: the command catalogue of R161, the reading of a request from its CMD byte and
parameters, the encoder of a request and its frame, and decodeTableWord. No row of spec/opcode_table.json has any
bits, so no word spells a command (log 20). -/

namespace Sys2Proof

open Machine

/-- The command code of a request (R161). -/
def Command.code : Command → Byte
  | .readDistrict => 0x10
  | .readDistrictStats => 0x11
  | .readFeed => 0x12
  | .readQueue => 0x13
  | .readSettings => 0x14
  | .readChainEntry => 0x15
  | .readSnapshot => 0x16
  | .readEvents => 0x17
  | .readPortStatus => 0x18
  | .setAttention => 0x19
  | .enable => 0x20
  | .disable => 0x21
  | .hold => 0x22
  | .release => 0x23
  | .clear => 0x24
  | .markSeen => 0x25
  | .snapshot => 0x26
  | .snapshotKeep => 0x27
  | .setDistrict => 0x30
  | .setFeed => 0x31
  | .setChainEntry => 0x32
  | .apply => 0x33
  | .applyChains => 0x34
  | .save => 0x35
  | .cycleFeed => 0x36
  | .haltWalk => 0x37
  | .resumeWalk => 0x38
  | .endWalk => 0x39
  | .clearWalkErrors => 0x3A
  | .releaseForeign => 0x3B
  | .resetStats => 0x3C

/-- Every command of R161, in code order. -/
def Command.all : List Command :=
  [.readDistrict, .readDistrictStats, .readFeed, .readQueue, .readSettings, .readChainEntry, .readSnapshot,
   .readEvents, .readPortStatus, .setAttention, .enable, .disable, .hold, .release, .clear, .markSeen,
   .snapshot, .snapshotKeep, .setDistrict, .setFeed, .setChainEntry, .apply, .applyChains, .save, .cycleFeed,
   .haltWalk, .resumeWalk, .endWalk, .clearWalkErrors, .releaseForeign, .resetStats]

/-- The command a CMD byte names, none for a code not in the table (R159, R161). -/
def Command.ofCode (b : Byte) : Option Command := Command.all.find? (fun c => c.code == b)

/-- The lowest role that may issue a command (R156, R161). -/
def Command.lowestRole : Command → Role
  | .readDistrict | .readDistrictStats | .readFeed | .readQueue | .readSettings | .readChainEntry
  | .readSnapshot | .readEvents | .readPortStatus | .setAttention => .watch
  | .enable | .disable | .hold | .release | .clear | .markSeen | .snapshot | .snapshotKeep => .operate
  | .setDistrict | .setFeed | .setChainEntry | .apply | .applyChains | .save | .cycleFeed | .haltWalk
  | .resumeWalk | .endWalk | .clearWalkErrors | .releaseForeign | .resetStats => .full

/-- The fixed parameter count of a command (R161). -/
def Command.paramBytes : Command → Nat
  | .applyChains | .save | .snapshot | .snapshotKeep => 0
  | .readDistrict | .readDistrictStats | .readFeed | .readQueue | .readSnapshot | .readEvents
  | .readPortStatus | .cycleFeed | .haltWalk | .resumeWalk | .endWalk | .clearWalkErrors => 1
  | .readChainEntry | .setAttention | .enable | .disable | .hold | .release | .clear | .markSeen
  | .resetStats => 2
  | .readSettings | .apply | .releaseForeign => 3
  | .setDistrict | .setFeed => 4
  | .setChainEntry => 11

/-- The roles nest: a role permits a command when it is not below the command's lowest role (R156). -/
def Role.permits (r : Role) (c : Command) : Bool :=
  decide (r ≠ .disabled) && decide (roleCode c.lowestRole ≤ roleCode r)

/-- The request a port's good frame carries, read from its command and parameters; none where the parameter
count is not the command's (R159, R161). -/
def decodeRequest (p : Port) (c : Command) (ps : List Byte) : Option Instr :=
  match c, ps with
  | .readDistrict, [n] => some (.readDistrict p n)
  | .readDistrictStats, [n] => some (.readDistrictStats p n)
  | .readFeed, [n] => some (.readFeed p n)
  | .readQueue, [n] => some (.readQueue p n)
  | .readSettings, [sel, n, img] => some (.readSettings p sel n img)
  | .readChainEntry, [i, img] => some (.readChainEntry p i img)
  | .readSnapshot, [n] => some (.readSnapshot p n)
  | .readEvents, [n] => some (.readEvents p n)
  | .readPortStatus, [o] => some (.readPortStatus p o)
  | .setAttention, [t, l] => some (.setAttention p t l)
  | .enable, [lo, hi] => some (.enable p (joinBytes lo hi))
  | .disable, [lo, hi] => some (.disable p (joinBytes lo hi))
  | .hold, [lo, hi] => some (.hold p (joinBytes lo hi))
  | .release, [lo, hi] => some (.release p (joinBytes lo hi))
  | .releaseForeign, [lo, hi, q] => some (.releaseForeign p (joinBytes lo hi) q)
  | .clear, [lo, hi] => some (.clear p (joinBytes lo hi))
  | .markSeen, [lo, hi] => some (.markSeen p (joinBytes lo hi))
  | .resetStats, [lo, hi] => some (.resetStats p (joinBytes lo hi))
  | .snapshot, [] => some (.snapshot p)
  | .snapshotKeep, [] => some (.snapshotKeep p)
  | .setDistrict, [n, k, lo, hi] => some (.setDistrict p n k (joinBytes lo hi))
  | .setFeed, [n, k, lo, hi] => some (.setFeed p n k (joinBytes lo hi))
  | .setChainEntry, [i, f, n, m0, m1, m2, m3, lo, hi, k, l] =>
      some (.setChainEntry p i ⟨f, n, m0, m1, m2, m3, joinBytes lo hi, k, l⟩)
  | .apply, [lo, hi, f] => some (.apply p (joinBytes lo hi) f)
  | .applyChains, [] => some (.applyChains p)
  | .save, [] => some (.save p)
  | .cycleFeed, [n] => some (.cycleFeed p n)
  | .haltWalk, [n] => some (.haltWalk p n)
  | .resumeWalk, [n] => some (.resumeWalk p n)
  | .endWalk, [n] => some (.endWalk p n)
  | .clearWalkErrors, [n] => some (.clearWalkErrors p n)
  | _, _ => none

/-- The port, command and parameter bytes of a request (R161); none for a row that is no request. -/
def encodeRequest : Instr → Option (Port × Command × List Byte)
  | .readDistrict p n => some (p, .readDistrict, [n])
  | .readDistrictStats p n => some (p, .readDistrictStats, [n])
  | .readFeed p n => some (p, .readFeed, [n])
  | .readQueue p n => some (p, .readQueue, [n])
  | .readSettings p sel n img => some (p, .readSettings, [sel, n, img])
  | .readChainEntry p i img => some (p, .readChainEntry, [i, img])
  | .readSnapshot p n => some (p, .readSnapshot, [n])
  | .readEvents p n => some (p, .readEvents, [n])
  | .readPortStatus p o => some (p, .readPortStatus, [o])
  | .setAttention p t l => some (p, .setAttention, [t, l])
  | .enable p m => some (p, .enable, halfBytes m)
  | .disable p m => some (p, .disable, halfBytes m)
  | .hold p m => some (p, .hold, halfBytes m)
  | .release p m => some (p, .release, halfBytes m)
  | .releaseForeign p m q => some (p, .releaseForeign, halfBytes m ++ [q])
  | .clear p m => some (p, .clear, halfBytes m)
  | .markSeen p m => some (p, .markSeen, halfBytes m)
  | .resetStats p m => some (p, .resetStats, halfBytes m)
  | .snapshot p => some (p, .snapshot, [])
  | .snapshotKeep p => some (p, .snapshotKeep, [])
  | .setDistrict p n k v => some (p, .setDistrict, [n, k] ++ halfBytes v)
  | .setFeed p n k v => some (p, .setFeed, [n, k] ++ halfBytes v)
  | .setChainEntry p i e =>
      some (p, .setChainEntry,
        [i, e.feed, e.count, e.member0, e.member1, e.member2, e.member3] ++ halfBytes e.pause ++
          [e.keepPause, e.link])
  | .apply p d f => some (p, .apply, halfBytes d ++ [f])
  | .applyChains p => some (p, .applyChains, [])
  | .save p => some (p, .save, [])
  | .cycleFeed p n => some (p, .cycleFeed, [n])
  | .haltWalk p n => some (p, .haltWalk, [n])
  | .resumeWalk p n => some (p, .resumeWalk, [n])
  | .endWalk p n => some (p, .endWalk, [n])
  | .clearWalkErrors p n => some (p, .clearWalkErrors, [n])
  | .powerOn _ | .resetPin _ | .sampleArrival _ _ | .coolDownExpiry _ | .settleExpiry _ | .deadTimeExpiry _
  | .lineChange _ _ | .debounceExpiry _ | .pauseExpiry _ | .lingerExpiry _ | .interByteTimeout _
  | .rxByte _ _ _ | .responseEnd _ | .storeWriteEnd _ | .resetAsserted => none

/-- The request frame of a command and its parameters: SYNC, LEN, CMD, parameters, CHECK (R157). -/
def requestFrame (c : Command) (ps : List Byte) : List Byte :=
  let covered := byteOf (ps.length + 1) :: c.code :: ps
  Config.syncRequest :: covered ++ [checkOf covered]

/-- The command a word spells by the bits of spec/opcode_table.json: none, since no row gives bits (log 20). -/
def decodeTableWord (_nbits _w : Nat) : Option Instr := none

end Sys2Proof
end

