-- ==== Sys2Proof/Machine/Records.lean ====
section
/-! DEFINITION. Machine/Records.lean: the records the part keeps and the value each field takes at a reset, chapter
by chapter: settings (07), districts (01 to 04), walks (06), feeds (05), the event ring (09), ports (08) and the
NV memory (10). All plain data. -/

namespace Sys2Proof.Machine

/-! ## Settings (R120, R145, R146) -/

/-- The type of a district (00, "Terms"; R145). -/
inductive Kind where
  | plain | reversing | unused
deriving DecidableEq, Repr, Inhabited

/-- The 16 settings of a district, in field-code order (R145). `h t l q w r` are H, T, L, Q, W, R. -/
structure DistrictSet where
  feed : FeedId
  kind : Kind
  h : Nat
  t : Nat
  l : Nat
  q : Nat
  w : Nat
  r : Nat
  coolDown : Nat
  settle : Nat
  occLevel : Nat
  occReports : Bool
  partner : Option DistrictId
  deadTime : Nat
  checkWindow : Nat
  swapOnSlow : Bool
deriving DecidableEq, Repr, Inhabited

/-- The 5 settings of a feed, in field-code order (R146). `p s` are P and S. -/
structure FeedSet where
  p : Nat
  s : Nat
  debounce : Nat
  haltOnError : Bool
  chainHead : Option EntryId
deriving DecidableEq, Repr, Inhabited

/-- One entry of a chain table (R120); a link of `none` is END. -/
structure ChainEntry where
  feed : FeedId
  members : List DistrictId
  pause : Nat
  keepPause : Bool
  link : Option EntryId
deriving DecidableEq, Repr, Inhabited

/-- One image of the settings: 16 district sets, 4 feed sets, 64 chain entries (R144). -/
structure Image where
  districts : Vector DistrictSet 16
  feeds : Vector FeedSet 4
  chains : Vector ChainEntry 64
deriving DecidableEq, Repr, Inhabited

/-- The defaults of district `d` (R145). -/
def defaultDistrict (feed : FeedId) : DistrictSet :=
  { feed := feed, kind := .plain, h := 20, t := 250, l := 500, q := 2000, w := 40, r := 3, coolDown := 1000,
    settle := 10000, occLevel := 3, occReports := false, partner := none, deadTime := 5, checkWindow := 40,
    swapOnSlow := false }

/-- The defaults of a feed (R146). -/
def defaultFeed : FeedSet := { p := 800, s := 1, debounce := 20, haltOnError := false, chainHead := none }

/-- The default chain entry, an empty one (R120). -/
def defaultEntry : ChainEntry := { feed := 0, members := [], pause := 0, keepPause := false, link := none }

/-- The images of a part whose store is invalid (R172); a district's default feed is its number divided by 4. -/
def defaultImage : Image :=
  { districts :=
      #v[defaultDistrict 0, defaultDistrict 0, defaultDistrict 0, defaultDistrict 0,
         defaultDistrict 1, defaultDistrict 1, defaultDistrict 1, defaultDistrict 1,
         defaultDistrict 2, defaultDistrict 2, defaultDistrict 2, defaultDistrict 2,
         defaultDistrict 3, defaultDistrict 3, defaultDistrict 3, defaultDistrict 3]
    feeds := Vector.replicate 4 defaultFeed
    chains := Vector.replicate 64 defaultEntry }

/-! ## Districts (R1) -/

/-- A timer: idle, or running with its remaining milliseconds (R5). -/
abbrev Timer := Option Nat

/-- The nine district states (R6). -/
inductive DState where
  | off | dark | live | swapping | swapCheck | tripped | queued | soaking | latched
deriving DecidableEq, Repr

/-- The switch of a district: CLOSED drives SW high (R2). -/
inductive Switch where
  | opened | closed
deriving DecidableEq, Repr

/-- The polarity of a district: SWAPPED drives POL high (R3). -/
inductive Polarity where
  | normal | swapped
deriving DecidableEq, Repr

/-- The forgiveness mode (R19). -/
inductive Mode where
  | lenient | strict
deriving DecidableEq, Repr

/-- The last cause (R24). -/
inductive Cause where
  | none | hard | slow | soakHard | soakExcess | soakUnsettled | swapFailed | feedFault
deriving DecidableEq, Repr

/-- The occupancy judgement (R32). -/
inductive Occupancy where
  | unknown | vacant | occupied
deriving DecidableEq, Repr

/-- How a soak began (R58). -/
inductive SoakOrigin where
  | individual
  | walk (entry : EntryId)
  | walkDefault
deriving DecidableEq, Repr

/-- How a soak ended (R67). -/
inductive SoakOutcome where
  | passed | soakHard | soakExcess | soakUnsettled | aborted
deriving DecidableEq, Repr

/-- The soak context and the granted cost, which are present together, while SOAKING (R56, R58). -/
structure SoakContext where
  origin : SoakOrigin
  n : Nat
  e : Nat
  cost : Nat
deriving DecidableEq, Repr

/-- The last soak figures (R67). -/
structure LastSoak where
  e : Nat
  used : Nat
  outcome : SoakOutcome
deriving DecidableEq, Repr

/-- The two conditions a sample can meet (R35). -/
inductive Condition where
  | hard | slow
deriving DecidableEq, Repr

/-- A trip deferral: the deferred condition and the figure that met the limit (R91). -/
structure Deferral where
  cause : Condition
  figure : Nat
deriving DecidableEq, Repr

/-- The ports that hold a district off (R4). -/
structure HoldSet where
  a : Bool
  b : Bool
  c : Bool
deriving DecidableEq, Repr

/-- A wrapping counter of 0 to 255 with its rollover flag (R25, R141). -/
structure Counter where
  count : Nat
  rolled : Bool
deriving DecidableEq, Repr

/-- The seven statistics of a district (R25). -/
structure Stats where
  trips : Counter
  excuses : Counter
  recoveries : Counter
  soakFails : Counter
  latches : Counter
  swaps : Counter
  swapFails : Counter
deriving DecidableEq, Repr

/-- The running load figures of a district (R40). -/
structure Accounting where
  charge : Nat
  count : Nat
  peak : Nat
  overflow : Bool
deriving DecidableEq, Repr

/-- A district's snapshot copy (R42). -/
structure SnapCopy where
  charge : Nat
  count : Nat
  peak : Nat
  overflow : Bool
  average : Nat
deriving DecidableEq, Repr

/-- The district record (R1). -/
structure District where
  state : DState
  switch : Switch
  polarity : Polarity
  holds : HoldSet
  mode : Mode
  retry : Nat
  suspect : Nat
  lastCause : Cause
  /-- The 8 most recent samples, oldest first (R30). -/
  window : List Nat
  /-- The sum of the window (R30). -/
  sum : Nat
  fill : Nat
  occupancy : Occupancy
  seen : Bool
  soak : Option SoakContext
  lastSoak : Option LastSoak
  deferral : Option Deferral
  grace : Bool
  preSwap : Option Polarity
  checkCount : Option Nat
  coolDown : Timer
  settle : Timer
  deadTime : Timer
  applyDeferred : Bool
  stats : Stats
  acct : Accounting
  snap : SnapCopy
deriving DecidableEq, Repr

/-- A counter at 0 with its flag clear. -/
def zeroCounter : Counter := { count := 0, rolled := false }

/-- The statistics at a reset and after RESET-STATS (R17, R25). -/
def zeroStats : Stats :=
  { trips := zeroCounter, excuses := zeroCounter, recoveries := zeroCounter, soakFails := zeroCounter,
    latches := zeroCounter, swaps := zeroCounter, swapFails := zeroCounter }

/-- The running figures at a reset and after SNAPSHOT (R40, R43). -/
def zeroAccounting : Accounting := { charge := 0, count := 0, peak := 0, overflow := false }

/-- The snapshot copy at a reset (R42). -/
def zeroSnap : SnapCopy := { charge := 0, count := 0, peak := 0, overflow := false, average := 0 }

/-- The window with all entries 0 (R1, R31). -/
def clearedWindow : List Nat := [0, 0, 0, 0, 0, 0, 0, 0]

/-- The empty hold set. -/
def noHolds : HoldSet := { a := false, b := false, c := false }

/-- The district record after a reset, in the state that R8 gives it. -/
def resetDistrict (state : DState) : District :=
  { state := state, switch := .opened, polarity := .normal, holds := noHolds, mode := .lenient, retry := 0,
    suspect := 0, lastCause := .none, window := clearedWindow, sum := 0, fill := 0, occupancy := .unknown,
    seen := false, soak := none, lastSoak := none, deferral := none, grace := false, preSwap := none,
    checkCount := none, coolDown := none, settle := none, deadTime := none, applyDeferred := false,
    stats := zeroStats, acct := zeroAccounting, snap := zeroSnap }

/-! ## Walks and feeds (R96, R122) -/

/-- The phase of a walk (R122). -/
inductive Phase where
  | idle | inEntry | pausing | entryHeld
deriving DecidableEq, Repr

/-- Whether a walk follows the chain table or the default order (R122). -/
inductive WalkKind where
  | none | chain | default
deriving DecidableEq, Repr

/-- The current position of a walk: an entry in a chain walk, a district in a default walk (R122). -/
inductive Position where
  | nowhere
  | entry (e : EntryId)
  | district (d : DistrictId)
deriving DecidableEq, Repr

/-- How the most recent walk ended (R122). -/
inductive LastEnd where
  | none | completed | command | linkError | aborted
deriving DecidableEq, Repr

/-- A member in flight: its district and its place in the entry's list (R122; the place is needed by the value
of WALK-ENTRY-DONE, R142, log 13). -/
structure Member where
  district : DistrictId
  place : Nat
deriving DecidableEq, Repr

/-- The walk context of a feed (R122). The three lists of places hold the member places of the current entry
that were admitted, that passed and that failed (R142, log 13). -/
structure Walk where
  phase : Phase
  kind : WalkKind
  position : Position
  memberPos : Nat
  inFlight : List Member
  entryAdmitted : Bool
  waiting : Bool
  stepCount : Nat
  pause : Timer
  linkError : Bool
  foreignMember : Bool
  memberFailed : Bool
  admitted : Nat
  passed : Nat
  failed : Nat
  lastEnd : LastEnd
  admittedPlaces : List Nat
  passedPlaces : List Nat
  failedPlaces : List Nat
deriving DecidableEq, Repr

/-- The recovery state of a feed (R97). -/
inductive FState where
  | down | walking | walkHalted | up
deriving DecidableEq, Repr

/-- The feed record (R96). -/
structure Feed where
  state : FState
  raw : Level
  accepted : Level
  debounce : Timer
  fell : Bool
  rose : Bool
  implicated : List DistrictId
  pool : Nat
  slots : Nat
  queue : List DistrictId
  applyDeferred : Bool
  walk : Walk
  completed : Counter
  ended : Counter
  abortedWalks : Counter
deriving DecidableEq, Repr

/-- The walk context after a reset (R122). -/
def resetWalk : Walk :=
  { phase := .idle, kind := .none, position := .nowhere, memberPos := 0, inFlight := [], entryAdmitted := false,
    waiting := false, stepCount := 0, pause := none, linkError := false, foreignMember := false,
    memberFailed := false, admitted := 0, passed := 0, failed := 0, lastEnd := .none, admittedPlaces := [],
    passedPlaces := [], failedPlaces := [] }

/-- The feed record after a reset: the raw level is the input's, and a HEALTHY one starts the debounce timer
with the loaded debounce setting (R96, R98). -/
def resetFeed (raw : Level) (debounceMs : Nat) : Feed :=
  { state := .down, raw := raw, accepted := .faulted,
    debounce := if raw = .healthy then some debounceMs else none,
    fell := false, rose := false, implicated := [], pool := 0, slots := 0, queue := [], applyDeferred := false,
    walk := resetWalk, completed := zeroCounter, ended := zeroCounter, abortedWalks := zeroCounter }

/-! ## Snapshot header (R42) -/

/-- The kind of the latest snapshot (R42). -/
inductive SnapKind where
  | none | snapshot | keep
deriving DecidableEq, Repr

/-- The snapshot header (R42). -/
structure SnapHeader where
  kind : SnapKind
  origin : Port
  stamp : Half
  fell : Vector Bool 4
  rose : Vector Bool 4
deriving DecidableEq, Repr

/-- The snapshot header after a reset (R42). -/
def resetHeader : SnapHeader :=
  { kind := .none, origin := .a, stamp := 0, fell := Vector.replicate 4 false, rose := Vector.replicate 4 false }

/-! ## Event ring (R165, R166) -/

/-- One entry of the ring, 8 bytes (R165). -/
structure Entry where
  kind : Byte
  subject : Byte
  origin : Byte
  detail : Byte
  value : Half
  stamp : Half
deriving DecidableEq, Repr

/-- The event ring and its write position (R166). -/
structure Ring where
  entries : Vector Entry 128
  write : RingPos
deriving DecidableEq, Repr

/-- Eight zero bytes. -/
def zeroEntry : Entry := { kind := 0, subject := 0, origin := 0, detail := 0, value := 0, stamp := 0 }

/-- The ring at a reset, before POWER-UP is appended (R166). -/
def resetRing : Ring := { entries := Vector.replicate 128 zeroEntry, write := 0 }

/-! ## Ports (R158, R160, R163, R168) -/

/-- The STATUS of a response (R160). -/
inductive Status where
  | ok | okClamped | partly | unchanged | refusedRole | refusedBusy | badTarget | badCommand | badLength
deriving DecidableEq, Repr

/-- A response: the command code echoed, STATUS and data (R157). -/
structure Response where
  cmd : Byte
  status : Status
  data : List Byte
deriving DecidableEq, Repr

/-- The reception state of a port; FRAME carries the bytes taken since SYNC, LEN first (R158). -/
inductive Reception where
  | hunt
  | frame (got : List Byte)
  | busy
deriving DecidableEq, Repr

/-- The state of a port (R163, R168), with the request it has passed on (R159) and the response it sends. -/
structure PortRecord where
  role : Role
  reception : Reception
  interByte : Timer
  disturbed : Bool
  badFrames : Nat
  lost : Nat
  overrun : Bool
  cursor : RingPos
  unread : Nat
  trigger : Fin 5
  linger : Fin 5
  lingerTimer : Timer
  lingerExpired : Bool
  request : Option Instr
  response : Option Response
deriving DecidableEq, Repr

/-- The three port records. -/
structure PortTable where
  a : PortRecord
  b : PortRecord
  c : PortRecord
deriving DecidableEq, Repr

/-- The port state after a reset (R158, R163, R166, R168). -/
def resetPort (role : Role) : PortRecord :=
  { role := role, reception := .hunt, interByte := none, disturbed := false, badFrames := 0, lost := 0,
    overrun := false, cursor := 0, unread := 0, trigger := 0, linger := 0, lingerTimer := none,
    lingerExpired := false, request := none, response := none }

/-! ## NV memory (R170, R171) -/

/-- A store write in progress: what it captured, for which port, and the time left to its limit (R171). -/
structure StoreWrite where
  origin : Port
  capture : Image
  check : Half
  remaining : Nat
deriving DecidableEq, Repr

/-- The NV memory: the stored image, which is always there and which every reset keeps, held as the settings its
bytes encode (log 7); the check word (absent where erased); the write in progress; and the number of writes started
(the model's own, log 6). -/
structure Nv where
  image : Image
  check : Option Half
  writing : Option StoreWrite
  writes : Nat
deriving DecidableEq, Repr

/-- A store that has never been written (R170). DESIGN CHOICE (log 7, unsafe): its image, of which the spec gives no
byte, is the default one. -/
def blankNv : Nv := { image := defaultImage, check := none, writing := none, writes := 0 }

end Sys2Proof.Machine

namespace Sys2Proof.Config

/-- FREE VALUE (log 7): the image that the n-th store write leaves where a reset cuts it off or its read-back does
not match. R171 leaves the store invalid and does not state its bytes; nothing is known of this value. -/
opaque tornImage (writes : Nat) : Machine.Image

end Sys2Proof.Config
end

