-- ==== Sys2Proof/Machine/State.lean ====
section
/-! DEFINITION. Machine/State.lean: the state of the part, its stops (the spec gives none) and the state right
after reset. -/

namespace Sys2Proof.Machine

/-- The faults of the part. It has none: every row of the table has an outcome in every state (INVENTORY.md,
"Faults"), so this type has no constructor and `exec` never answers a fault. -/
inductive Fault where
deriving DecidableEq, Repr

/-- The refusals of the model. -/
inductive Refusal where
  /-- Raised by an arm of `exec` whose row has no meaning yet. Every row has one, so no arm raises it; safe. -/
  | notModelled (mnemonic : String)
deriving DecidableEq, Repr

/-- Everything the part keeps (INVENTORY.md, "State"), and the queue of commands waiting. -/
structure State where
  /-- The commands waiting, first in, first out (the model's own, log 2). -/
  pending : List Instr
  /-- RESETN is low (R172). -/
  inReset : Bool
  /-- The Timebase millisecond count (R165). -/
  now : Half
  /-- The AUTOSTART value held since the last reset (R172). -/
  autostart : Bool
  districts : Vector District 16
  feeds : Vector Feed 4
  /-- The images masters write and the part works from (R144). -/
  pendingImage : Image
  activeImage : Image
  chainApplyWaiting : Bool
  snapshot : SnapHeader
  ring : Ring
  ports : PortTable
  nv : Nv
deriving DecidableEq, Repr

/-- The POWER-UP entry of `State.reset` (R165, R172): POWER-ON, DEFAULTS, roles WATCH, FULL and OPERATE, AUTOSTART
low. -/
def powerUpAtReset : Entry :=
  { kind := 0x01, subject := 0xFF, origin := 3, detail := 2, value := 0x002D, stamp := 0 }

/-- A port right after reset: POWER-UP, the first append, is unread (R166). -/
def portAtReset (role : Role) : PortRecord := { resetPort role with unread := 1 }

/-- The machine right after a POWER-ON start of a part whose store has never been written, with the typical role
straps of the spec's introduction, AUTOST low and every fault input high. DESIGN CHOICE (log 1, unsafe): the straps
and inputs. -/
def State.reset : State :=
  { pending := []
    inReset := false
    now := 0
    autostart := false
    districts := Vector.replicate 16 (resetDistrict .off)
    feeds := Vector.replicate 4 (resetFeed .healthy 20)
    pendingImage := defaultImage
    activeImage := defaultImage
    chainApplyWaiting := false
    snapshot := resetHeader
    ring := { entries := resetRing.entries.set 0 powerUpAtReset, write := 1 }
    ports := { a := portAtReset .watch, b := portAtReset .full, c := portAtReset .operate }
    nv := blankNv }

end Sys2Proof.Machine
end

