-- ==== Sys2Proof/Machine/Flags.lean ====
section
/-! DEFINITION. Machine/Flags.lean: flags, counters and codes: the rollover of a counter, the hold set, the codes a
master reads, the STATUS of a mask command, and the output lines. -/

namespace Sys2Proof.Machine

/-! ## Counters -/

/-- A statistics or walk counter rises by one; at the rise from 255 it becomes 0 and its flag is set (R25, R141). -/
def Counter.rise (c : Counter) : Counter :=
  if c.count = 255 then { count := 0, rolled := true } else { c with count := c.count + 1 }

/-- A figure of 0 to 255 that saturates rises by one (R122, R158, R166). -/
def saturate (n : Nat) : Nat := min 255 (n + 1)

/-! ## Hold sets (R4) -/

/-- Whether a port is in the hold set. -/
def HoldSet.has (h : HoldSet) : Port → Bool
  | .a => h.a
  | .b => h.b
  | .c => h.c

/-- The hold set with a port put in or taken out. -/
def HoldSet.put (h : HoldSet) (on : Bool) : Port → HoldSet
  | .a => { h with a := on }
  | .b => { h with b := on }
  | .c => { h with c := on }

/-- No port holds the district. -/
def HoldSet.isEmpty (h : HoldSet) : Bool := !h.a && !h.b && !h.c

/-- The hold set in three bits, A lowest (R26, R165). -/
def HoldSet.code (h : HoldSet) : Nat := bit h.a + 2 * bit h.b + 4 * bit h.c

/-! ## Codes (R26, R46, R119, R143, R160, R165) -/

/-- State codes (R26). -/
def DState.code : DState → Nat
  | .off => 0
  | .dark => 1
  | .live => 2
  | .swapping => 3
  | .swapCheck => 4
  | .tripped => 5
  | .queued => 6
  | .soaking => 7
  | .latched => 8

/-- Cause codes (R26). -/
def Cause.code : Cause → Nat
  | .none => 0
  | .hard => 1
  | .slow => 2
  | .soakHard => 3
  | .soakExcess => 4
  | .soakUnsettled => 5
  | .swapFailed => 6
  | .feedFault => 7

/-- Kind codes (R26, R145). -/
def Kind.code : Kind → Nat
  | .plain => 0
  | .reversing => 1
  | .unused => 2

/-- Occupancy codes (R26, R33). -/
def Occupancy.code : Occupancy → Nat
  | .unknown => 0
  | .vacant => 1
  | .occupied => 2

/-- Polarity codes (R95). -/
def Polarity.code : Polarity → Nat
  | .normal => 0
  | .swapped => 1

/-- Soak origin codes (R26, R69). -/
def SoakOrigin.code : SoakOrigin → Nat
  | .individual => 1
  | .walk _ => 2
  | .walkDefault => 3

/-- Last soak outcome codes (R26). -/
def SoakOutcome.code : SoakOutcome → Nat
  | .passed => 1
  | .soakHard => 2
  | .soakExcess => 3
  | .soakUnsettled => 4
  | .aborted => 5

/-- Trip deferral codes (R26). -/
def Condition.code : Condition → Nat
  | .hard => 1
  | .slow => 2

/-- The cause a trip by this condition has (R39). -/
def Condition.cause : Condition → Cause
  | .hard => .hard
  | .slow => .slow

/-- Feed state codes (R119). -/
def FState.code : FState → Nat
  | .down => 0
  | .walking => 1
  | .walkHalted => 2
  | .up => 3

/-- Walk phase codes (R143). -/
def Phase.code : Phase → Nat
  | .idle => 0
  | .inEntry => 1
  | .pausing => 2
  | .entryHeld => 3

/-- Walk kind codes (R143). -/
def WalkKind.code : WalkKind → Nat
  | .none => 0
  | .chain => 1
  | .default => 2

/-- Last end codes (R143). -/
def LastEnd.code : LastEnd → Nat
  | .none => 0
  | .completed => 1
  | .command => 2
  | .linkError => 3
  | .aborted => 4

/-- Snapshot kind codes (R46). -/
def SnapKind.code : SnapKind → Nat
  | .none => 0
  | .snapshot => 1
  | .keep => 2

/-- STATUS codes (R160). -/
def Status.code : Status → Byte
  | .ok => 0x00
  | .okClamped => 0x01
  | .partly => 0x02
  | .unchanged => 0x03
  | .refusedRole => 0x10
  | .refusedBusy => 0x11
  | .badTarget => 0x20
  | .badCommand => 0x21
  | .badLength => 0x22

/-- The current position as READ-FEED reports it (R143). -/
def Position.readCode : Position → Nat
  | .nowhere => 255
  | .entry e => e.val
  | .district d => d.val

/-- The current position as walk events carry it: the entry index, or 80h plus the district number (R142). -/
def Position.eventCode : Position → Nat
  | .nowhere => 255
  | .entry e => e.val
  | .district d => 128 + d.val

/-- The member places of a list as four bits (R142). -/
def placesMask (ps : List Nat) : Nat :=
  bit (ps.contains 0) + 2 * bit (ps.contains 1) + 4 * bit (ps.contains 2) + 8 * bit (ps.contains 3)

/-- The walk figures as WALK-ENDED and WALK-ABORTED carry them, each capped at 31 (R142). -/
def Walk.figures (w : Walk) : Nat := min 31 w.admitted + 32 * min 31 w.passed + 1024 * min 31 w.failed

/-- The three rollover flags of a feed's walk counters, in bits 0 to 2 (R143). The rule names no others; they are 0
(DESIGN CHOICE, log 27). -/
def Feed.rollFlags (x : Feed) : Nat := bit x.completed.rolled + 2 * bit x.ended.rolled + 4 * bit x.abortedWalks.rolled

/-- The seven rollover flags of a district, TRIPS in bit 0 (R25). -/
def Stats.rollFlags (st : Stats) : Nat :=
  bit st.trips.rolled + 2 * bit st.excuses.rolled + 4 * bit st.recoveries.rolled + 8 * bit st.soakFails.rolled +
    16 * bit st.latches.rolled + 32 * bit st.swaps.rolled + 64 * bit st.swapFails.rolled

/-- The flags byte of the district summary (R26, byte 2). -/
def District.flags (r : District) : Nat :=
  bit (r.switch == .closed) + 2 * bit (r.polarity == .swapped) + 4 * bit (r.mode == .strict) + 8 * bit r.seen +
    16 * bit r.grace + 32 * bit r.applyDeferred + 64 * bit r.preSwap.isSome + 128 * bit (r.preSwap == some .swapped)

/-- The flags byte of the feed section (R119). The rule names its lowest five bits; the upper three are 0 (DESIGN CHOICE,
log 27). -/
def Feed.flags (x : Feed) : Nat :=
  bit (x.accepted == .healthy) + 2 * bit (x.raw == .healthy) + 4 * bit x.fell + 8 * bit x.rose +
    16 * bit x.applyDeferred

/-- The flags byte of the walk section (R143). -/
def Walk.flags (w : Walk) : Nat :=
  bit w.linkError + 2 * bit w.foreignMember + 4 * bit w.memberFailed + 8 * bit w.waiting + 16 * bit w.entryAdmitted

/-! ## The STATUS of a mask command (R160) -/

/-- PARTIAL when a district was refused, else OK when one was changed, else UNCHANGED (R160). -/
def maskStatus (done refused : List DistrictId) : Status :=
  if !refused.isEmpty then .partly else if !done.isEmpty then .ok else .unchanged

/-! ## Attention (R168) -/

/-- The attention trigger of a code (R161). -/
def triggerOf : Fin 5 → Nat
  | 0 => 1
  | 1 => 32
  | 2 => 64
  | 3 => 96
  | 4 => 112

/-- The linger length in milliseconds of a code, none for OFF (R161). -/
def lingerOf : Fin 5 → Timer
  | 0 => none
  | 1 => some 10
  | 2 => some 50
  | 3 => some 200
  | 4 => some 1000

/-- The attention line of a port is asserted (R168). -/
def PortRecord.attention (q : PortRecord) : Bool :=
  decide (q.role ≠ .disabled) &&
    (decide (triggerOf q.trigger ≤ q.unread) || (q.lingerExpired && decide (0 < q.unread)))

end Sys2Proof.Machine
end

