-- ==== Sys2Proof/Machine/Operands.lean ====
section
/-! DEFINITION. Machine/Operands.lean: the operand forms of the commands: district masks and numbers, the scanner's
conversion, the clamps of the SET commands (R145 to R147), and the byte forms of settings (R155, R121, R170). -/

namespace Sys2Proof.Machine

/-! ## Numbers and masks -/

/-- The 16 districts in ascending order. -/
def allDistricts : List DistrictId := [0, 1, 2, 3, 4, 5, 6, 7, 8, 9, 10, 11, 12, 13, 14, 15]

/-- The 4 feeds in ascending order. -/
def allFeeds : List FeedId := [0, 1, 2, 3]

/-- The three ports. -/
def allPorts : List Port := [.a, .b, .c]

/-- The district a byte names, none above 15. -/
def districtOf (b : Byte) : Option DistrictId :=
  if h : b.toNat < 16 then some ⟨b.toNat, h⟩ else none

/-- The feed a byte names, none above 3. -/
def feedOf (b : Byte) : Option FeedId :=
  if h : b.toNat < 4 then some ⟨b.toNat, h⟩ else none

/-- The chain entry a byte names, none above 63. -/
def entryOf (b : Byte) : Option EntryId :=
  if h : b.toNat < 64 then some ⟨b.toNat, h⟩ else none

/-- An attention code, none above 4 (R161). -/
def attentionCode (b : Byte) : Option (Fin 5) :=
  if h : b.toNat < 5 then some ⟨b.toNat, h⟩ else none

/-- The districts a mask names, ascending (R9; bit n stands for district n). -/
def namedDistricts (mask : Half) : List DistrictId := allDistricts.filter (fun d => mask.getLsbD d.val)

/-- The feeds a feed mask names, ascending. -/
def namedFeeds (mask : Byte) : List FeedId := allFeeds.filter (fun f => mask.getLsbD f.val)

/-- A set of districts as a mask. -/
def districtMask (ds : List DistrictId) : Half :=
  ds.foldr (fun d m => m ||| ((1 : Half) <<< d.val)) 0

/-- A set of feeds as the low four bits of a number. -/
def feedMask (fs : List FeedId) : Nat :=
  bit (fs.contains 0) + 2 * bit (fs.contains 1) + 4 * bit (fs.contains 2) + 8 * bit (fs.contains 3)

/-- The Sense Scanner's conversion of a level: below zero reads 0, above full scale reads 1023 (R27). -/
def senseCount (level : Int) : Nat := min Config.fullScale level.toNat

/-! ## Clamps -/

/-- A value clamped to a range. -/
def clamp (lo hi v : Nat) : Nat := max lo (min hi v)

/-- The kind a kind code stands for; a code above 2 is written as 2, UNUSED (R145). -/
def kindOf (v : Nat) : Kind := if v = 0 then .plain else if v = 1 then .reversing else .unused

/-- The value SET-DISTRICT writes for a field code and the value sent (R145). -/
def clampDistrictField (field v : Nat) : Nat :=
  match field with
  | 0 => min 3 v
  | 1 => min 2 v
  | 2 => min 1021 v
  | 3 => clamp 1 1022 v
  | 4 => clamp 2 1023 v
  | 5 => v
  | 6 => clamp 8 400 v
  | 7 => clamp 1 15 v
  | 8 => clamp 10 5000 v
  | 9 => clamp 100 60000 v
  | 10 => clamp 1 1023 v
  | 11 => min 1 v
  | 12 => if v ≤ 15 then v else 255
  | 13 => clamp 1 20 v
  | 14 => clamp 8 200 v
  | _ => min 1 v

/-- A district set with one field written, the value being in the field's range (R145). -/
def DistrictSet.write (ds : DistrictSet) (field v : Nat) : DistrictSet :=
  match field with
  | 0 => { ds with feed := Fin.ofNat 4 v }
  | 1 => { ds with kind := kindOf v }
  | 2 => { ds with h := v }
  | 3 => { ds with t := v }
  | 4 => { ds with l := v }
  | 5 => { ds with q := v }
  | 6 => { ds with w := v }
  | 7 => { ds with r := v }
  | 8 => { ds with coolDown := v }
  | 9 => { ds with settle := v }
  | 10 => { ds with occLevel := v }
  | 11 => { ds with occReports := v == 1 }
  | 12 => { ds with partner := if h : v < 16 then some ⟨v, h⟩ else none }
  | 13 => { ds with deadTime := v }
  | 14 => { ds with checkWindow := v }
  | _ => { ds with swapOnSlow := v == 1 }

/-- The value SET-FEED writes for a field code and the value sent (R146). -/
def clampFeedField (field v : Nat) : Nat :=
  match field with
  | 0 => clamp 1 4092 v
  | 1 => clamp 1 4 v
  | 2 => clamp 1 100 v
  | 3 => min 1 v
  | _ => if v ≤ 63 then v else 255

/-- A feed set with one field written, the value being in the field's range (R146). -/
def FeedSet.write (fs : FeedSet) (field v : Nat) : FeedSet :=
  match field with
  | 0 => { fs with p := v }
  | 1 => { fs with s := v }
  | 2 => { fs with debounce := v }
  | 3 => { fs with haltOnError := v == 1 }
  | _ => { fs with chainHead := if h : v < 64 then some ⟨v, h⟩ else none }

/-- The member a member byte is written as: above 15 as 15 (R147). -/
def memberOf (b : Byte) : DistrictId := Fin.ofNat 16 (min 15 b.toNat)

/-- The chain entry that SET-CHAIN-ENTRY writes for the bytes sent (R147). -/
def chainEntryOf (e : EntryBytes) : ChainEntry :=
  { feed := Fin.ofNat 4 (min 3 e.feed.toNat)
    members := ([e.member0, e.member1, e.member2, e.member3].take (min 4 e.count.toNat)).map memberOf
    pause := min 10000 e.pause.toNat
    keepPause := decide (e.keepPause ≠ 0)
    link := entryOf e.link }

/-- Whether a field of the entry sent was clamped (R147). Member bytes beyond the count are not looked at: R147 lists
"not stored, and read back as FFh" among its clamps and does not say whether such a byte other than FFh makes the answer
OK-CLAMPED; the model answers OK for it (DESIGN CHOICE, log 26). -/
def chainEntryClamped (e : EntryBytes) : Bool :=
  decide (3 < e.feed.toNat) || decide (4 < e.count.toNat) ||
    ([e.member0, e.member1, e.member2, e.member3].take (min 4 e.count.toNat)).any (fun b => decide (15 < b.toNat)) ||
    decide (10000 < e.pause.toNat) || decide (1 < e.keepPause.toNat) ||
    (decide (63 < e.link.toNat) && decide (e.link ≠ 0xFF))

/-! ## Byte forms -/

/-- A district number or FFh for NONE. -/
def optDistrictByte : Option DistrictId → Byte
  | some d => byteOf d.val
  | none => 0xFF

/-- An entry index or FFh for NONE or END. -/
def optEntryByte : Option EntryId → Byte
  | some e => byteOf e.val
  | none => 0xFF

/-- The 24-byte form of a district set (R155, R170). -/
def DistrictSet.bytes (ds : DistrictSet) : List Byte :=
  [byteOf ds.feed.val, byteOf ds.kind.code] ++ twoBytes ds.h ++ twoBytes ds.t ++ twoBytes ds.l ++ twoBytes ds.q ++
    twoBytes ds.w ++ [byteOf ds.r] ++ twoBytes ds.coolDown ++ twoBytes ds.settle ++ twoBytes ds.occLevel ++
    [byteOf (bit ds.occReports), optDistrictByte ds.partner, byteOf ds.deadTime, byteOf ds.checkWindow,
     byteOf (bit ds.swapOnSlow)]

/-- The 6-byte form of a feed set (R155, R170). -/
def FeedSet.bytes (fs : FeedSet) : List Byte :=
  twoBytes fs.p ++ [byteOf fs.s, byteOf fs.debounce, byteOf (bit fs.haltOnError), optEntryByte fs.chainHead]

/-- The 10-byte form of a chain entry, unused member places FFh (R121, R147, R170). -/
def ChainEntry.bytes (e : ChainEntry) : List Byte :=
  [byteOf e.feed.val, byteOf e.members.length] ++
    ((e.members.map (fun (m : DistrictId) => byteOf m.val)) ++ [0xFF, 0xFF, 0xFF, 0xFF]).take 4 ++ twoBytes e.pause ++
    [byteOf (bit e.keepPause), optEntryByte e.link]

/-- The 1048-byte image that SAVE stores (R170). -/
def Image.bytes (i : Image) : List Byte :=
  i.districts.toList.flatMap DistrictSet.bytes ++ i.feeds.toList.flatMap FeedSet.bytes ++
    i.chains.toList.flatMap ChainEntry.bytes

/-- The check word of an image: FFFFh minus the sum of its bytes, modulo 65536 (R170). -/
def Image.check (i : Image) : Half :=
  (0xFFFF : Half) - halfOf ((i.bytes.map BitVec.toNat).sum)

end Sys2Proof.Machine
end

