-- ==== Sys2Proof/Machine/Ops.lean ====
section
/-! DEFINITION. Machine/Ops.lean: the named operations over the records: reading and updating them, changing a
district's state (R2, R6), appending an event (R166), answering a request (R159), the outputs, and the guard that
keeps the part still while it is in reset (R172). -/

namespace Sys2Proof.Machine

/-! ## Reading and updating records -/

/-- The record of district `d`. -/
def State.district (s : State) (d : DistrictId) : District := s.districts[d.val]'d.isLt

/-- The state with the record of district `d` replaced. -/
def State.setDistrict (s : State) (d : DistrictId) (r : District) : State :=
  { s with districts := s.districts.set d.val r d.isLt }

/-- The state with the record of district `d` changed by `g`. -/
def State.modDistrict (s : State) (d : DistrictId) (g : District → District) : State :=
  s.setDistrict d (g (s.district d))

/-- The record of feed `f`. -/
def State.feed (s : State) (f : FeedId) : Feed := s.feeds[f.val]'f.isLt

/-- The state with the record of feed `f` replaced. -/
def State.setFeed (s : State) (f : FeedId) (x : Feed) : State :=
  { s with feeds := s.feeds.set f.val x f.isLt }

/-- The state with the record of feed `f` changed by `g`. -/
def State.modFeed (s : State) (f : FeedId) (g : Feed → Feed) : State := s.setFeed f (g (s.feed f))

/-- The state with the walk context of feed `f` changed by `g`. -/
def State.modWalk (s : State) (f : FeedId) (g : Walk → Walk) : State :=
  s.modFeed f (fun x => { x with walk := g x.walk })

/-- The walk context of feed `f`. -/
def State.walk (s : State) (f : FeedId) : Walk := (s.feed f).walk

/-- The record of a port. -/
def PortTable.get (t : PortTable) : Port → PortRecord
  | .a => t.a
  | .b => t.b
  | .c => t.c

/-- The table with the record of a port replaced. -/
def PortTable.set (t : PortTable) (q : PortRecord) : Port → PortTable
  | .a => { t with a := q }
  | .b => { t with b := q }
  | .c => { t with c := q }

/-- The table with every record changed by `g`. -/
def PortTable.map (t : PortTable) (g : PortRecord → PortRecord) : PortTable :=
  { a := g t.a, b := g t.b, c := g t.c }

/-- The record of port `p`. -/
def State.port (s : State) (p : Port) : PortRecord := s.ports.get p

/-- The state with the record of port `p` changed by `g`. -/
def State.modPort (s : State) (p : Port) (g : PortRecord → PortRecord) : State :=
  { s with ports := s.ports.set (g (s.port p)) p }

/-! ## Settings (R144) -/

/-- The set of district `d` in an image. -/
def Image.district (i : Image) (d : DistrictId) : DistrictSet := i.districts[d.val]'d.isLt

/-- The set of feed `f` in an image. -/
def Image.feed (i : Image) (f : FeedId) : FeedSet := i.feeds[f.val]'f.isLt

/-- The chain entry `e` of an image. -/
def Image.entry (i : Image) (e : EntryId) : ChainEntry := i.chains[e.val]'e.isLt

/-- An image with the set of district `d` replaced. -/
def Image.withDistrict (i : Image) (d : DistrictId) (ds : DistrictSet) : Image :=
  { i with districts := i.districts.set d.val ds d.isLt }

/-- An image with the set of feed `f` replaced. -/
def Image.withFeed (i : Image) (f : FeedId) (fs : FeedSet) : Image :=
  { i with feeds := i.feeds.set f.val fs f.isLt }

/-- An image with the chain entry `e` replaced. -/
def Image.withEntry (i : Image) (e : EntryId) (c : ChainEntry) : Image :=
  { i with chains := i.chains.set e.val c e.isLt }

/-- The active settings of district `d`. -/
def State.dset (s : State) (d : DistrictId) : DistrictSet := s.activeImage.district d

/-- The active settings of feed `f`. -/
def State.fset (s : State) (f : FeedId) : FeedSet := s.activeImage.feed f

/-- The feed district `d` belongs to, from its active settings (R96). -/
def State.feedOfDistrict (s : State) (d : DistrictId) : FeedId := (s.dset d).feed

/-- The districts that belong to feed `f`, ascending (R96). -/
def State.districtsOf (s : State) (f : FeedId) : List DistrictId :=
  allDistricts.filter (fun d => s.feedOfDistrict d == f)

/-- The districts of feed `f` that are in a state, ascending. -/
def State.inState (s : State) (f : FeedId) (st : DState) : List DistrictId :=
  (s.districtsOf f).filter (fun d => (s.district d).state == st)

/-! ## The district record -/

/-- The states whose switch is CLOSED (R2). -/
def DState.energised : DState → Bool
  | .live | .swapCheck | .soaking => true
  | .off | .dark | .swapping | .tripped | .queued | .latched => false

/-- The states in which the settle timer keeps running (R20). -/
def DState.settles : DState → Bool
  | .live | .swapping | .swapCheck => true
  | .off | .dark | .tripped | .queued | .soaking | .latched => false

/-- The states of a swap in progress. -/
def DState.isSwap : DState → Bool
  | .swapping | .swapCheck => true
  | .off | .dark | .live | .tripped | .queued | .soaking | .latched => false

/-- The states in which an apply of the district waits (R150). -/
def DState.defersApply : DState → Bool
  | .soaking | .swapping | .swapCheck => true
  | .off | .dark | .live | .tripped | .queued | .latched => false

/-- The states an accepted fault darkens (R99). -/
def DState.darkens : DState → Bool
  | .live | .swapping | .swapCheck | .soaking | .tripped | .queued => true
  | .off | .dark | .latched => false

/-- The window clearing of a switch that opens (R31). -/
def District.clearWindow (r : District) : District :=
  { r with window := clearedWindow, sum := 0, fill := 0, occupancy := .unknown }

/-- A change of state: the switch follows the new state, with the window clearing when it opens (R2, R31); every
timer the new state does not run stops, and every field it does not hold becomes absent or clear (R6, R20). -/
def District.enter (r : District) (st : DState) : District :=
  let r := if r.switch = .closed ∧ st.energised = false then r.clearWindow else r
  { r with
    state := st
    switch := if st.energised then .closed else .opened
    soak := if st = .soaking then r.soak else none
    deferral := if st = .live then r.deferral else none
    grace := if st = .live then r.grace else false
    preSwap := if st.isSwap then r.preSwap else none
    checkCount := if st = .swapCheck then r.checkCount else none
    coolDown := if st = .tripped then r.coolDown else none
    settle := if st.settles then r.settle else none
    deadTime := if st = .swapping then r.deadTime else none }

/-- The start of a soak, by grant or admission (R55, R75): SOAKING with n and E at 0 and the granted cost. -/
def District.startSoak (r : District) (origin : SoakOrigin) (cost : Nat) : District :=
  { r.enter .soaking with soak := some { origin := origin, n := 0, e := 0, cost := cost } }

/-- The last soak figures written at a soak's end (R67); nothing where no soak is in progress. -/
def District.recordSoak (r : District) (outcome : SoakOutcome) : District :=
  match r.soak with
  | some c => { r with lastSoak := some { e := c.e, used := c.n, outcome := outcome } }
  | none => r

/-- The window average: the sum divided by 8, truncated (R30). -/
def District.average (r : District) : Nat := r.sum / Config.windowLength

/-- The newest window entry (R30). -/
def District.latest (r : District) : Nat := r.window.getLastD 0

/-- The other polarity. -/
def Polarity.toggled : Polarity → Polarity
  | .normal => .swapped
  | .swapped => .normal

/-! ## Events (R165, R166) -/

/-- The kinds of event (R165). -/
inductive EventKind where
  | powerUp | trip | excused | soakPassed | soakFailed | latched | settled | swapped | swapFailed | occupancy
  | commandState | feedDown | feedUp | walkStarted | walkEntryDone | walkHalted | walkEnded | walkAborted
  | settingsApplied | settingsCorrected | chainsApplied | snapshotTaken | storeSaved | storeFailed
deriving DecidableEq, Repr

/-- Kind codes (R165). -/
def EventKind.code : EventKind → Byte
  | .powerUp => 0x01
  | .trip => 0x02
  | .excused => 0x03
  | .soakPassed => 0x04
  | .soakFailed => 0x05
  | .latched => 0x06
  | .settled => 0x07
  | .swapped => 0x08
  | .swapFailed => 0x09
  | .occupancy => 0x0A
  | .commandState => 0x0B
  | .feedDown => 0x0C
  | .feedUp => 0x0D
  | .walkStarted => 0x0E
  | .walkEntryDone => 0x0F
  | .walkHalted => 0x10
  | .walkEnded => 0x11
  | .walkAborted => 0x12
  | .settingsApplied => 0x13
  | .settingsCorrected => 0x14
  | .chainsApplied => 0x15
  | .snapshotTaken => 0x16
  | .storeSaved => 0x17
  | .storeFailed => 0x18

/-- The subject of an event: a district, a feed, or NONE (R165). -/
inductive Subject where
  | nothing
  | district (d : DistrictId)
  | feed (f : FeedId)
deriving DecidableEq, Repr

/-- The subject byte (R165). -/
def Subject.code : Subject → Byte
  | .nothing => 0xFF
  | .district d => byteOf d.val
  | .feed f => byteOf f.val

/-- Who an event comes from (R165). -/
inductive Origin where
  | device
  | port (p : Port)
deriving DecidableEq, Repr

/-- The origin byte (R165). -/
def Origin.code : Origin → Byte
  | .device => 3
  | .port p => portCode p

/-- An event before it is stamped. -/
structure Event where
  kind : EventKind
  subject : Subject
  origin : Origin
  detail : Byte
  value : Half
deriving DecidableEq, Repr

/-- The entry an event is held as (R165). -/
def Event.entry (ev : Event) (stamp : Half) : Entry :=
  { kind := ev.kind.code, subject := ev.subject.code, origin := ev.origin.code, detail := ev.detail,
    value := ev.value, stamp := stamp }

/-- The 8 bytes of an entry (R165). -/
def Entry.bytes (e : Entry) : List Byte :=
  [e.kind, e.subject, e.origin, e.detail] ++ halfBytes e.value ++ halfBytes e.stamp

/-- An entry is written at the write position, which advances (R166). -/
def Ring.append (g : Ring) (e : Entry) : Ring :=
  { entries := g.entries.set g.write.val e g.write.isLt, write := g.write + 1 }

/-- What an append does at a port (R166), and to its linger timer when it is the first unread entry (R168). -/
def PortRecord.onAppend (q : PortRecord) : PortRecord :=
  if q.role = .disabled then q
  else if q.unread < Config.ringSize then
    { q with
      unread := q.unread + 1
      lingerTimer := if q.unread = 0 then lingerOf q.linger else q.lingerTimer }
  else { q with cursor := q.cursor + 1, lost := saturate q.lost, overrun := true }

/-- An event is stamped and appended, and every enabled port's counts follow (R166). -/
def State.post (s : State) (ev : Event) : State :=
  { s with ring := s.ring.append (ev.entry s.now), ports := s.ports.map PortRecord.onAppend }

/-- An event of a district with origin DEVICE. -/
def State.postDistrict (s : State) (kind : EventKind) (d : DistrictId) (detail value : Nat) : State :=
  s.post { kind := kind, subject := .district d, origin := .device, detail := byteOf detail, value := halfOf value }

/-! ## Requests and responses (R159, R160) -/

/-- The outcome of a request at its owner: STATUS and data (R160). -/
structure Reply where
  status : Status
  data : List Byte
deriving DecidableEq, Repr

/-- The reply to a number, selector or code out of range (R160). -/
def Reply.badTarget : Reply := { status := .badTarget, data := [] }

/-- STATUS OK with data. -/
def Reply.ok (data : List Byte) : Reply := { status := .ok, data := data }

/-- The port is between a good frame and the last byte of its response, and sends this one (R158, R159). -/
def State.respond (s : State) (p : Port) (cmd : Byte) (reply : Reply) : State :=
  s.modPort p (fun q =>
    { q with
      reception := .busy
      interByte := none
      request := none
      response := some { cmd := cmd, status := reply.status, data := reply.data } })

/-- The part does nothing while it is in reset (R172, log 8). -/
def State.whenRunning (s : State) (act : State → State) : State := if s.inReset then s else act s

/-- A port that is BUSY with another exchange than the request `i`: it sends a response, or has passed on another
request, and takes no second one until its response is sent (R159). -/
def PortRecord.engaged (q : PortRecord) (i : Instr) : Bool :=
  decide (q.reception = .busy) && !decide (q.request = some i)

/-- The request that a port has passed on leaves it for its owner (R159). -/
def State.takeRequest (s : State) (p : Port) : State :=
  if (s.port p).reception = .busy then s.modPort p (fun q => { q with reception := .hunt, request := none }) else s

/-- The request `i` taken from its port (R156, R158, R159): nothing at a DISABLED port; discarded with the disturbed
note at a port that is BUSY with another exchange; REFUSED-ROLE where the role does not permit the command; otherwise
the owner's effect `body` and its response, with which the port stays BUSY. The row may come from the port that has
passed `i` on, or without a frame before it (log 5). -/
def State.serve (s : State) (i : Instr) (body : State → State × Reply) : State :=
  match encodeRequest i with
  | none => s
  | some (p, c, _) =>
    s.whenRunning (fun s =>
      if (s.port p).role = .disabled then s
      else if (s.port p).engaged i then s.modPort p (fun q => { q with disturbed := true })
      else
        let s := s.takeRequest p
        if (s.port p).role.permits c then ((body s).1).respond p c.code (body s).2
        else s.respond p c.code { status := .refusedRole, data := [] })

/-- The bytes of a response frame (R157). -/
def Response.frame (x : Response) : List Byte :=
  let covered := byteOf (x.data.length + 2) :: x.cmd :: x.status.code :: x.data
  Config.syncResponse :: covered ++ [checkOf covered]

/-! ## Outputs (00, "Pins"; R2, R3, R157, R168, R172) -/

/-- The SW output of a district is high. -/
def State.sw (s : State) (d : DistrictId) : Bool := !s.inReset && (s.district d).switch == .closed

/-- The POL output of a district is high. -/
def State.pol (s : State) (d : DistrictId) : Bool := !s.inReset && (s.district d).polarity == .swapped

/-- The frame a port drives on its TX line, none where the line is released. -/
def State.tx (s : State) (p : Port) : Option (List Byte) :=
  if s.inReset then none else ((s.port p).response).map Response.frame

/-- The ATN output of a port is asserted (low). -/
def State.atn (s : State) (p : Port) : Bool := !s.inReset && (s.port p).attention

end Sys2Proof.Machine
end

