-- ==== Sys2Proof/Machine/Arbiter.lean ====
section
/-! DEFINITION. Machine/Arbiter.lean: the Feed Arbiter's wait queue, pool and slots (R108 to R112), the entry to
LATCHED and to TRIPPED (R22, R23, R48), and the partner relation (R79). -/

namespace Sys2Proof.Machine

/-! ## The grant rule -/

/-- The cost of a soak of district `d` on feed `f`: min(L, P) (R55, R111). -/
def State.cost (s : State) (f : FeedId) (d : DistrictId) : Nat := min (s.dset d).l (s.fset f).p

/-- The grant at the district (R55). -/
def District.granted (r : District) (cost limit : Nat) : District :=
  { r.startSoak .individual cost with retry := min (r.retry + 1) limit }

/-- Whether the head `h` of feed `f`'s queue is granted (R111 steps 1 to 3). A grant is only taken at a district
that is still QUEUED (R57, log 15). -/
def State.canGrant (s : State) (f : FeedId) (h : DistrictId) : Bool :=
  decide ((s.feed f).state = .up) && !(s.feed f).applyDeferred && decide ((s.district h).state = .queued) &&
    decide ((s.feed f).slots < (s.fset f).s) && decide ((s.feed f).pool + s.cost f h ≤ (s.fset f).p)

/-- The grant of the head `h`, the rest of the queue being `rest`: cost and slot are taken and the district starts
its soak, as one event (R55, R111 step 3). -/
def State.grantHead (s : State) (f : FeedId) (h : DistrictId) (rest : List DistrictId) : State :=
  (s.modFeed f (fun x => { x with queue := rest, pool := x.pool + s.cost f h, slots := x.slots + 1 })).modDistrict h
    (fun r => r.granted (s.cost f h) (s.dset h).r)

/-- A run of the grant rule, at most `n` grants: head of line only (R111). -/
def grantLoop : Nat → FeedId → State → State
  | 0, _, s => s
  | n + 1, f, s =>
    match (s.feed f).queue with
    | [] => s
    | h :: rest => if s.canGrant f h then grantLoop n f (s.grantHead f h rest) else s

/-- A run of the grant rule of feed `f` (R111); it cannot grant more districts than the queue holds. -/
def State.runGrantRule (s : State) (f : FeedId) : State := grantLoop (s.feed f).queue.length f s

/-- District `d` enters QUEUED at the tail of feed `f`'s queue (R53, R108). -/
def State.enqueue (s : State) (f : FeedId) (d : DistrictId) : State :=
  (s.modDistrict d (fun r => r.enter .queued)).modFeed f (fun x => { x with queue := x.queue ++ [d] })

/-- A join: the district enters QUEUED and the grant rule runs (R53, R112). -/
def State.join (s : State) (f : FeedId) (d : DistrictId) : State := (s.enqueue f d).runGrantRule f

/-- District `d` leaves feed `f`'s queue, those behind it moving up (R108). -/
def State.leaveQueue (s : State) (f : FeedId) (d : DistrictId) : State :=
  s.modFeed f (fun x => { x with queue := x.queue.filter (fun e => e != d) })

/-- District `d` returns to service on the feed of its active settings: QUEUED if the feed is UP, else DARK
(R10, R15, R152 step 4). -/
def State.returnToService (s : State) (d : DistrictId) : State :=
  if (s.feed (s.feedOfDistrict d)).state = .up then s.join (s.feedOfDistrict d) d
  else s.modDistrict d (fun r => r.enter .dark)

/-! ## LATCHED and TRIPPED -/

/-- The entry to LATCHED (R23): the counter rises and LATCHED is posted with the cause and the retry count. -/
def State.latch (s : State) (d : DistrictId) (cause : Cause) : State :=
  (s.modDistrict d (fun r =>
      { r.enter .latched with stats := { r.stats with latches := r.stats.latches.rise } })).postDistrict
    .latched d cause.code (s.district d).retry

/-- The entry to TRIPPED with the cool-down started (R48). -/
def District.toTripped (r : District) (coolDown : Nat) : District :=
  { r.enter .tripped with coolDown := some coolDown }

/-- LATCHED if the retry count is at R, else TRIPPED (R22). -/
def State.tripOrLatch (s : State) (d : DistrictId) (cause : Cause) : State :=
  if (s.dset d).r ≤ (s.district d).retry then s.latch d cause
  else s.modDistrict d (fun r => r.toTripped (s.dset d).coolDown)

/-! ## The partner relation (R79) -/

/-- District `v` is REVERSING and its partner setting names `p`. -/
def DistrictSet.claims (ds : DistrictSet) (p : DistrictId) : Bool :=
  ds.kind == .reversing && ds.partner == some p

/-- The active partner of district `v` in an image, if it has one (R79). -/
def Image.partnerOf (i : Image) (v : DistrictId) : Option DistrictId :=
  match (i.district v).partner with
  | none => none
  | some p =>
    if (i.district v).kind = .reversing ∧ p ≠ v ∧ (i.district p).kind = .plain ∧
        (allDistricts.all (fun e => decide (v ≤ e) || !(i.district e).claims p)) = true
    then some p else none

/-- The REVERSING district whose active partner `p` is, if there is one (R79). -/
def Image.guardianOf (i : Image) (p : DistrictId) : Option DistrictId :=
  allDistricts.find? (fun v => i.partnerOf v == some p)

/-- The grace of `v`'s active partner ends (R85, R86, R87). -/
def State.endGrace (s : State) (v : DistrictId) : State :=
  match s.activeImage.partnerOf v with
  | none => s
  | some p => s.modDistrict p (fun r => { r with grace := false })

end Sys2Proof.Machine
end

