-- ==== Sys2Proof/Machine/Walker.lean ====
section
/-! DEFINITION. Machine/Walker.lean: the Chain Walker (chapter 06): visits, admission, completion, pauses and
links, halts, the end and the abort of a walk, and its notices. -/

namespace Sys2Proof.Machine

/-! ## The entry being worked -/

/-- The members of the current entry: an entry's list, or in a default walk the one district (R124, R126). -/
def State.members (s : State) (f : FeedId) : List DistrictId :=
  match (s.walk f).position with
  | .nowhere => []
  | .entry e => (s.activeImage.entry e).members
  | .district d => [d]

/-- The pause-after of the current entry; 0 in a default walk (R124, R130). -/
def State.pauseAfter (s : State) (f : FeedId) : Nat :=
  match (s.walk f).position with
  | .entry e => (s.activeImage.entry e).pause
  | .nowhere | .district _ => 0

/-- keep-pause-if-all-skipped of the current entry; off in a default walk (R124, R130). -/
def State.keepPause (s : State) (f : FeedId) : Bool :=
  match (s.walk f).position with
  | .entry e => (s.activeImage.entry e).keepPause
  | .nowhere | .district _ => false

/-- The position the current entry's link names, none for END (R124, R130). -/
def State.nextPosition (s : State) (f : FeedId) : Option Position :=
  match (s.walk f).position with
  | .nowhere => none
  | .entry e => (s.activeImage.entry e).link.map Position.entry
  | .district d => ((s.districtsOf f).find? (fun e => decide (d < e))).map Position.district

/-- The first position of a walk of the kind the chain head gives, none for an empty default order (R123, R124). -/
def State.firstPosition (s : State) (f : FeedId) : Option Position :=
  match (s.fset f).chainHead with
  | some e => some (.entry e)
  | none => ((s.districtsOf f).head?).map Position.district

/-! ## Walk events (R142) -/

/-- A walk event of feed `f`. -/
def State.postWalk (s : State) (kind : EventKind) (f : FeedId) (origin : Origin) (detail value : Nat) : State :=
  s.post { kind := kind, subject := .feed f, origin := origin, detail := byteOf detail, value := halfOf value }

/-- The DARK districts of feed `f` as a mask (R107, R142). -/
def State.darkMask (s : State) (f : FeedId) : Nat := (districtMask (s.inState f .dark)).toNat

/-- WALK-STARTED with its reason: 1 RECOVERY, 2 CYCLE, 3 RESUMED, and bit 4 for a default walk (R142). -/
def State.postWalkStarted (s : State) (f : FeedId) (origin : Origin) (reason : Nat) : State :=
  s.postWalk .walkStarted f origin (reason + (if (s.walk f).kind = .default then 16 else 0)) (s.darkMask f)

/-- WALK-ENTRY-DONE of the current entry (R142). -/
def State.postEntryDone (s : State) (f : FeedId) : State :=
  s.postWalk .walkEntryDone f .device (s.walk f).position.eventCode
    (placesMask (s.walk f).admittedPlaces + 16 * placesMask (s.walk f).passedPlaces +
      256 * placesMask (s.walk f).failedPlaces)

/-! ## Halt (R133) -/

/-- Why a walk halts (R142). -/
inductive HaltReason where
  | command
  | foreignMember (d : DistrictId)
  | memberFailed (d : DistrictId)
deriving DecidableEq, Repr

/-- The detail of WALK-HALTED (R142). -/
def HaltReason.code : HaltReason → Nat
  | .command => 1
  | .foreignMember _ => 2
  | .memberFailed _ => 3

/-- The district that raised the error, or FFh (R142). -/
def HaltReason.raiser : HaltReason → Nat
  | .command => 255
  | .foreignMember d => d.val
  | .memberFailed d => d.val

/-- A walk halts (R133): WALK-HALTED, a pause in progress stops, and the event is posted. The low byte of its value is
the current position, in a pause too, where that is the done entry; R142 has FFh there "in no entry" and does not say
whether a pausing walk is in an entry (DESIGN CHOICE, log 25). -/
def State.haltWalk (s : State) (f : FeedId) (origin : Origin) (reason : HaltReason) : State :=
  let s := s.modFeed f (fun x =>
    { x with
      state := .walkHalted
      walk := if x.walk.phase = .pausing then { x.walk with phase := .entryHeld, pause := none } else x.walk })
  s.postWalk .walkHalted f origin reason.code ((s.walk f).position.eventCode + 256 * reason.raiser)

/-! ## The end of a walk (R139) -/

/-- Why a walk ends (R139). -/
inductive EndReason where
  | completed | command | linkError
deriving DecidableEq, Repr

/-- The detail of WALK-ENDED (R142). -/
def EndReason.code : EndReason → Nat
  | .completed => 1
  | .command => 2
  | .linkError => 3

/-- The last end a reason leaves (R122). -/
def EndReason.lastEnd : EndReason → LastEnd
  | .completed => .completed
  | .command => .command
  | .linkError => .linkError

/-- The walk context at a walk's end or abort (R139 step 1, R140 step 1). What the rules do not name is kept
(log 12). -/
def Walk.stopped (w : Walk) (how : LastEnd) : Walk :=
  { w with phase := .idle, kind := .none, inFlight := [], entryAdmitted := false, waiting := false, pause := none,
           lastEnd := how }

/-- A DARK district at walk end: FEED-FAULT and LATCHED at a suspect count of 2, else QUEUED (R139 step 2). -/
def State.settleDark (f : FeedId) (s : State) (d : DistrictId) : State :=
  if 2 ≤ (s.district d).suspect then
    (s.modDistrict d (fun r => { r with lastCause := .feedFault })).latch d .feedFault
  else s.enqueue f d

/-- Some feed is WALKING or WALK-HALTED (R154). -/
def State.anyWalk (s : State) : Bool :=
  allFeeds.any (fun f => (s.feed f).state == .walking || (s.feed f).state == .walkHalted)

/-- The copy of the pending chain table into the active one, with CHAINS-APPLIED (R154). -/
def State.copyChains (s : State) (origin : Origin) : State :=
  { s with
    activeImage := { s.activeImage with chains := s.pendingImage.chains }
    chainApplyWaiting := false }.post
    { kind := .chainsApplied, subject := .nothing, origin := origin, detail := 0, value := 0 }

/-- The waiting chain copy, made once no feed walks (R139 step 6, R154). -/
def State.copyWaitingChains (s : State) : State :=
  if s.chainApplyWaiting && !s.anyWalk then s.copyChains .device else s

/-- A walk ends (R139). -/
def State.endWalk (s : State) (f : FeedId) (origin : Origin) (reason : EndReason) : State :=
  let s := s.modWalk f (fun w => w.stopped reason.lastEnd)
  let s := (s.inState f .dark).foldl (State.settleDark f) s
  let s := s.modFeed f (fun x =>
    match reason with
    | .completed => { x with completed := x.completed.rise }
    | .command | .linkError => { x with ended := x.ended.rise })
  let s := s.postWalk .walkEnded f origin reason.code (s.walk f).figures
  let s := s.modFeed f (fun x => { x with state := .up })
  (s.runGrantRule f).copyWaitingChains

/-- A walk is aborted by an accepted fault (R140); the detail of WALK-ABORTED is the phase it was in. -/
def State.abortWalk (s : State) (f : FeedId) : State :=
  (s.modFeed f (fun x =>
    { x with walk := x.walk.stopped .aborted, abortedWalks := x.abortedWalks.rise })).postWalk .walkAborted f .device
    (s.walk f).phase.code (s.walk f).figures

/-! ## Admission (R126) -/

/-- The soak origin of a member admitted at a position (R75). -/
def Position.soakOrigin : Position → SoakOrigin
  | .entry e => .walk e
  | .nowhere | .district _ => .walkDefault

/-- A member is skipped: the member position moves on (R126). -/
def State.skipMember (s : State) (f : FeedId) : State :=
  s.modWalk f (fun w => { w with waiting := false, memberPos := w.memberPos + 1 })

/-- A member is admitted: the pool, the walk context and the member's record, as one event (R75, R126). -/
def State.admitMember (s : State) (f : FeedId) (m : DistrictId) : State :=
  let c := s.cost f m
  let w := s.walk f
  (s.modFeed f (fun x =>
    { x with
      pool := x.pool + c
      walk := { w with
        inFlight := w.inFlight ++ [{ district := m, place := w.memberPos }]
        admittedPlaces := w.admittedPlaces ++ [w.memberPos]
        entryAdmitted := true
        admitted := saturate w.admitted
        waiting := false
        memberPos := w.memberPos + 1 } })).modDistrict m (fun r => r.startSoak w.position.soakOrigin c)

/-- Admission over the members from the member position onwards (R126): each is skipped or admitted, until the
list ends, a member does not fit the pool, or a FOREIGN-MEMBER halts the walk. A member that an apply has darkened on
this same feed, by a change of its kind between PLAIN and REVERSING alone, passes the tests of R126 and is admitted;
R131's table says of such an apply that the test then skips the member (DESIGN CHOICE for R126, log 23). -/
def admitFrom (f : FeedId) : List DistrictId → State → State
  | [], s => s
  | m :: rest, s =>
    if s.feedOfDistrict m ≠ f then
      let s := (s.modWalk f (fun w => { w with foreignMember := true })).skipMember f
      if (s.fset f).haltOnError then s.haltWalk f .device (.foreignMember m) else admitFrom f rest s
    else if (s.district m).state ≠ .dark ∨ 0 < (s.district m).suspect then admitFrom f rest (s.skipMember f)
    else if (s.feed f).pool + s.cost f m ≤ (s.fset f).p then admitFrom f rest (s.admitMember f m)
    else s.modWalk f (fun w => { w with waiting := true })

/-- Admission from where the walk stands (R126, R127, R135). -/
def State.runAdmission (s : State) (f : FeedId) : State := admitFrom f ((s.members f).drop (s.walk f).memberPos) s

/-! ## Completion, pauses and links (R125, R129, R130) -/

/-- The current entry is done (R129). -/
def State.entryDone (s : State) (f : FeedId) : Bool :=
  decide ((s.walk f).phase = .inEntry) && decide ((s.walk f).memberPos = (s.members f).length) &&
    (s.walk f).inFlight.isEmpty

/-- A done entry's pause begins, or its link is followed at once: `visit` visits the next position, and END ends
the walk COMPLETED (R130). -/
def State.pauseOrLink (visit : Position → State → State) (f : FeedId) (s : State) : State :=
  if 0 < s.pauseAfter f ∧ ((s.walk f).entryAdmitted || s.keepPause f) = true then
    s.modWalk f (fun w => { w with phase := .pausing, pause := some (s.pauseAfter f) })
  else
    match s.nextPosition f with
    | none => s.endWalk f .device .completed
    | some pos => visit pos s

/-- The completion test after an admission pass or a notice (R129): a done entry posts WALK-ENTRY-DONE, and is
held on a halted walk. -/
def State.complete (visit : Position → State → State) (f : FeedId) (s : State) : State :=
  if s.entryDone f then
    if ((s.postEntryDone f).feed f).state = .walkHalted then
      (s.postEntryDone f).modWalk f (fun w => { w with phase := .entryHeld })
    else (s.postEntryDone f).pauseOrLink visit f
  else s

/-- The walk context at a visit that goes to work on its entry (R125 step 5). -/
def Walk.working (w : Walk) : Walk :=
  { w with phase := .inEntry, memberPos := 0, inFlight := [], entryAdmitted := false, waiting := false,
           admittedPlaces := [], passedPlaces := [], failedPlaces := [] }

/-- A visit to a chain entry finds a LINK-ERROR: the step count has passed the table's length, the entry is empty,
or it names another feed (R125 steps 2 to 4). The one district of a default visit is never in error (R124). -/
def State.visitFails (s : State) (f : FeedId) : Bool :=
  match (s.walk f).position with
  | .entry e =>
    decide (Config.walkStepLimit ≤ (s.walk f).stepCount) || (s.activeImage.entry e).members.isEmpty ||
      decide ((s.activeImage.entry e).feed ≠ f)
  | .nowhere | .district _ => false

/-- A visit (R125), with admission, the completion test and what follows it, all in one event. The first argument
bounds the visits of one event; a walk makes at most 65 visits (R125, log 18). -/
def visit : Nat → FeedId → Position → State → State
  | 0, _, _, s => s
  | n + 1, f, pos, s =>
    let s := s.modWalk f (fun w => { w with position := pos, stepCount := w.stepCount + 1 })
    if s.visitFails f then
      (s.modWalk f (fun w => { w with linkError := true })).endWalk f .device .linkError
    else ((s.modWalk f Walk.working).runAdmission f).complete (visit n f) f

/-- The most visits one event can make (R125, log 18). -/
def visitBound : Nat := 66

/-- A visit with the bound that no walk reaches. -/
def State.visitEntry (f : FeedId) (pos : Position) (s : State) : State := visit visitBound f pos s

/-- A walk starts (R123), the feed having just entered WALKING. -/
def State.startWalk (s : State) (f : FeedId) (origin : Origin) (reason : Nat) : State :=
  let s := s.modWalk f (fun w =>
    { w with
      stepCount := 0, admitted := 0, passed := 0, failed := 0
      linkError := false, foreignMember := false, memberFailed := false
      inFlight := [], entryAdmitted := false, waiting := false
      kind := if (s.fset f).chainHead.isSome then .chain else .default })
  let s := s.postWalkStarted f origin reason
  match s.firstPosition f with
  | none => s.endWalk f .device .completed
  | some pos => s.visitEntry f pos

/-- The pause expires and the link is followed (R130). -/
def State.followLink (s : State) (f : FeedId) : State :=
  match s.nextPosition f with
  | none => s.endWalk f .device .completed
  | some pos => s.visitEntry f pos

/-- Admission and then the completion test (R127, R135). -/
def State.resumeEntry (s : State) (f : FeedId) : State := (s.runAdmission f).complete (State.visitEntry f) f

/-! ## Notices (R128) -/

/-- How a soak ended, as its notice says (R68). -/
inductive NoticeOutcome where
  | passed | failed | aborted
deriving DecidableEq, Repr

/-- A member leaves the in-flight set and its outcome is counted (R128 steps 1 to 3). -/
def Walk.counted (w : Walk) (d : DistrictId) (outcome : NoticeOutcome) : Walk :=
  let places := (w.inFlight.filter (fun m => m.district == d)).map Member.place
  let w := { w with inFlight := w.inFlight.filter (fun m => m.district != d) }
  match outcome with
  | .passed => { w with passed := saturate w.passed, passedPlaces := w.passedPlaces ++ places }
  | .failed =>
    { w with failed := saturate w.failed, failedPlaces := w.failedPlaces ++ places, memberFailed := true }
  | .aborted => w

/-- A walk soak's notice reaches the walk context (R128): not used when the walk has ended; else the outcome is
counted, a failure may halt the walk, a waiting admission is retried, and completion is tested. -/
def State.walkNotice (s : State) (f : FeedId) (d : DistrictId) (outcome : NoticeOutcome) : State :=
  if (s.walk f).phase = .idle then s
  else
    let s := s.modWalk f (fun w => w.counted d outcome)
    let s :=
      if outcome = .failed ∧ (s.fset f).haltOnError = true ∧ (s.feed f).state = .walking then
        s.haltWalk f .device (.memberFailed d)
      else s
    let s := if (s.feed f).state = .walking ∧ (s.walk f).waiting = true then s.runAdmission f else s
    s.complete (State.visitEntry f) f

end Sys2Proof.Machine
end

