-- ==== Sys2Proof/Machine/Copies.lean ====
section
/-! DEFINITION. Machine/Copies.lean: the copies of an apply (chapter 07): the corrections of R149, a district's copy
with its effects and fresh start (R150 to R152), a feed's copy (R115, R153), and the soak-end notice at the feed
(R113), which makes a waiting feed copy. -/

namespace Sys2Proof.Machine

/-! ## Feed copies -/

/-- The active set of feed `f` takes its pending set and the flag is cleared (R115). -/
def State.installFeed (s : State) (f : FeedId) : State :=
  { s with activeImage := s.activeImage.withFeed f (s.pendingImage.feed f) }.modFeed f
    (fun x => { x with applyDeferred := false })

/-- A feed's copy made at once: no event of its own, and the grant rule runs (R112, R115, R153). -/
def State.copyFeed (s : State) (f : FeedId) : State := (s.installFeed f).runGrantRule f

/-- A feed's deferred copy: SETTINGS-APPLIED with origin DEVICE, and the grant rule runs (R115, R153). -/
def State.deferredFeedCopy (s : State) (f : FeedId) : State :=
  ((s.installFeed f).post
    { kind := .settingsApplied, subject := .feed f, origin := .device, detail := byteOf (32 + feedMask [f]),
      value := 0 }).runGrantRule f

/-- A waiting feed copy is made once no district of the feed is SOAKING (R115). -/
def State.copyWaitingFeed (s : State) (f : FeedId) : State :=
  if (s.feed f).applyDeferred && (s.inState f .soaking).isEmpty then s.deferredFeedCopy f else s

/-! ## The soak-end notice (R113) -/

/-- The notice of a soak of district `d` at feed `f` (R68, R113): cost and slot return, a walk soak's notice goes
to the walker, the grant rule runs, and a waiting feed copy is made. -/
def State.soakEndNotice (s : State) (f : FeedId) (d : DistrictId) (c : SoakContext) (outcome : NoticeOutcome) : State :=
  let s := s.modFeed f (fun x =>
    { x with
      pool := x.pool - c.cost
      slots := if c.origin = .individual then x.slots - 1 else x.slots })
  let s := if c.origin = .individual then s else s.walkNotice f d outcome
  (s.runGrantRule f).copyWaitingFeed f

/-! ## Corrections (R149) -/

/-- A corrected set and which corrections were made. -/
structure Correction where
  set : DistrictSet
  tRaised : Bool
  lRaised : Bool
  partnerCleared : Bool
deriving DecidableEq, Repr

/-- Some correction was made. -/
def Correction.any (c : Correction) : Bool := c.tRaised || c.lRaised || c.partnerCleared

/-- The detail of SETTINGS-CORRECTED (R149). -/
def Correction.code (c : Correction) : Nat := bit c.tRaised + 2 * bit c.lRaised + 4 * bit c.partnerCleared

/-- The set of another district that a correction reads: pending if the district is named in the same APPLY, else
active (R149 step 3). A deferred copy names none (R150). -/
def State.correctionView (s : State) (named : Half) (e : DistrictId) : DistrictSet :=
  if named.getLsbD e.val then s.pendingImage.district e else s.activeImage.district e

/-- The partner setting of district `d` does not stand (R149 step 3). -/
def State.partnerFails (s : State) (named : Half) (d : DistrictId) (ds : DistrictSet) : Bool :=
  match ds.partner with
  | none => false
  | some p =>
    ds.kind == .reversing &&
      (p == d || (s.correctionView named p).kind != .plain ||
        allDistricts.any (fun e => decide (e < d) && (s.correctionView named e).claims p))

/-- The correction of district `d`'s pending set (R149). -/
def State.correction (s : State) (named : Half) (d : DistrictId) : Correction :=
  let ds := s.pendingImage.district d
  let t := if ds.t ≤ ds.h then ds.h + 1 else ds.t
  let l := if ds.l ≤ t then t + 1 else ds.l
  let bad := s.partnerFails named d ds
  { set := { ds with t := t, l := l, partner := if bad then none else ds.partner }
    tRaised := decide (ds.t ≤ ds.h)
    lRaised := decide (ds.l ≤ t)
    partnerCleared := bad }

/-- The corrected set is written back to the pending image, with SETTINGS-CORRECTED if anything was corrected
(R149). -/
def State.correct (s : State) (named : Half) (origin : Origin) (d : DistrictId) : State :=
  let c := s.correction named d
  let s := { s with pendingImage := s.pendingImage.withDistrict d c.set }
  if c.any then
    s.post { kind := .settingsCorrected, subject := .district d, origin := origin, detail := byteOf c.code,
             value := halfOf c.set.t }
  else s

/-! ## District copies -/

/-- The grace and the deferral of a district whose guardian changes are cleared (R79, R151). -/
def State.clearChangedRelation (before : Image) (s : State) (p : DistrictId) : State :=
  if before.guardianOf p = s.activeImage.guardianOf p then s
  else s.modDistrict p (fun r => { r with grace := false, deferral := none })

/-- The active set of district `d` takes its pending set; the relations this changes are settled (R79, R151), and
the retry count is brought to the new R (R21, R151). -/
def State.installDistrict (s : State) (d : DistrictId) : State :=
  let before := s.activeImage
  let s := { s with activeImage := s.activeImage.withDistrict d (s.pendingImage.district d) }
  let s := allDistricts.foldl (State.clearChangedRelation before) s
  s.modDistrict d (fun r => { r with retry := min r.retry (s.dset d).r })

/-- A QUEUED district leaves the queue of feed `f` for another state, and the grant rule runs there (R11 step 3,
R112, R152 step 2); another district only changes state. -/
def State.leaveFor (s : State) (f : FeedId) (d : DistrictId) (st : DState) : State :=
  let was := (s.district d).state
  let s := s.modDistrict d (fun r => r.enter st)
  if was = .queued then (s.leaveQueue f d).runGrantRule f else s

/-- What a changed feed or kind does to the district (R152); `old` is its feed before the copy. -/
def State.changeFeedOrKind (s : State) (old : FeedId) (d : DistrictId) : State :=
  let s := s.modDistrict d (fun r => if (s.dset d).kind = .reversing then r else { r with polarity := .normal })
  match (s.district d).state with
  | .off => s
  | .latched => if (s.dset d).kind = .unused then s.modDistrict d (fun r => r.enter .off) else s
  | .dark | .live | .tripped | .queued =>
    if (s.dset d).kind = .unused then s.leaveFor old d .off else (s.leaveFor old d .dark).returnToService d
  | .swapping | .swapCheck | .soaking => s

/-- A district's copy into the active image and its effects (R150 to R152). -/
def State.copyDistrict (s : State) (d : DistrictId) : State :=
  let before := s.dset d
  let s := s.installDistrict d
  if (s.dset d).feed = before.feed ∧ (s.dset d).kind = before.kind then
    if (s.district d).state = .queued then s.runGrantRule before.feed else s
  else s.changeFeedOrKind before.feed d

/-- The deferred copy of district `d`, made when it has left SOAKING, SWAPPING and SWAP-CHECK (R150): corrected
again, copied, SETTINGS-APPLIED posted, and the effects of R151 and R152. -/
def State.deferredCopy (s : State) (d : DistrictId) : State :=
  if (s.district d).applyDeferred && !(s.district d).state.defersApply then
    let s := s.correct 0 .device d
    let s := s.modDistrict d (fun r => { r with applyDeferred := false })
    let s := s.post { kind := .settingsApplied, subject := .district d, origin := .device, detail := 0x10,
                      value := districtMask [d] }
    s.copyDistrict d
  else s

end Sys2Proof.Machine
end

