-- ==== Sys2Proof/Machine/Recovery.lean ====
section
/-! DEFINITION. Machine/Recovery.lean: what ends or interrupts a district's operation: trips, soak ends (chapter
03), swaps (chapter 04), entry to OFF (R11), darkening (R101) and the acceptance of a fault (R99). -/

namespace Sys2Proof.Machine

/-! ## Trips (R39) -/

/-- A trip of district `d` from LIVE (R39); `figure` is the sample that met L or the average that met T. -/
def State.trip (s : State) (d : DistrictId) (by' : Condition) (figure : Nat) : State :=
  let s := s.modDistrict d (fun r =>
    { r with lastCause := by'.cause, mode := .strict, stats := { r.stats with trips := r.stats.trips.rise } })
  (s.postDistrict .trip d by'.cause.code figure).tripOrLatch d by'.cause

/-- An excuse (R36): STRICT, the settle timer started, EXCUSES up, EXCUSED posted. -/
def State.excuse (s : State) (d : DistrictId) (figure : Nat) : State :=
  (s.modDistrict d (fun r =>
    { r with
      mode := .strict
      settle := some (s.dset d).settle
      stats := { r.stats with excuses := r.stats.excuses.rise } })).postDistrict .excused d Cause.hard.code figure

/-! ## Soak ends (R66, R74) -/

/-- The cause of a soak failure and the outcome it records (R66, R67). -/
inductive SoakFailure where
  | hard | excess | unsettled
deriving DecidableEq, Repr

/-- The last cause of a soak failure. -/
def SoakFailure.cause : SoakFailure → Cause
  | .hard => .soakHard
  | .excess => .soakExcess
  | .unsettled => .soakUnsettled

/-- The outcome of a soak failure. -/
def SoakFailure.outcome : SoakFailure → SoakOutcome
  | .hard => .soakHard
  | .excess => .soakExcess
  | .unsettled => .soakUnsettled

/-- A soak with figures `c` at its end fails (R66); the notice comes before a deferred copy (log 9). -/
def State.soakFail (s : State) (d : DistrictId) (c : SoakContext) (why : SoakFailure) : State :=
  let f := s.feedOfDistrict d
  let s := s.modDistrict d (fun r =>
    { r with
      lastCause := why.cause
      stats := { r.stats with soakFails := r.stats.soakFails.rise }
      lastSoak := some { e := c.e, used := c.n, outcome := why.outcome } })
  let s := s.postDistrict .soakFailed d (why.cause.code + 16 * c.origin.code) c.e
  ((s.tripOrLatch d why.cause).soakEndNotice f d c .failed).deferredCopy d

/-- A soak with figures `c` at its end passes (R74). -/
def State.soakPass (s : State) (d : DistrictId) (c : SoakContext) : State :=
  let f := s.feedOfDistrict d
  let s := s.modDistrict d (fun r =>
    { r.enter .live with
      mode := .strict
      settle := some (s.dset d).settle
      suspect := 0
      stats := { r.stats with recoveries := r.stats.recoveries.rise }
      lastSoak := some { e := c.e, used := c.n, outcome := .passed } })
  let s := s.postDistrict .soakPassed d (16 * c.origin.code) c.e
  (s.soakEndNotice f d c .passed).deferredCopy d

/-! ## Swaps (R81, R85, R86) -/

/-- The swap trigger at the REVERSING district and at its active partner (R81). -/
def State.swapTrigger (s : State) (v : DistrictId) : State :=
  let s := s.modDistrict v (fun r =>
    { r with
      preSwap := some r.polarity
      polarity := r.polarity.toggled
      deadTime := some (s.dset v).deadTime }.enter .swapping)
  match s.activeImage.partnerOf v with
  | none => s
  | some p =>
    if (s.district p).state = .live then s.modDistrict p (fun r => { r with grace := true, deferral := none }) else s

/-- A swap succeeds (R85). -/
def State.swapSuccess (s : State) (v : DistrictId) : State :=
  let s := s.modDistrict v (fun r => { r.enter .live with stats := { r.stats with swaps := r.stats.swaps.rise } })
  let s := s.postDistrict .swapped v (s.district v).polarity.code (s.district v).average
  (s.endGrace v).deferredCopy v

/-- A swap fails (R86); `test` is 1 for the hard test and 2 for the average test, `figure` what met the limit. -/
def State.swapFail (s : State) (v : DistrictId) (test figure : Nat) : State :=
  let s := s.modDistrict v (fun r =>
    { r with
      lastCause := .swapFailed
      polarity := r.preSwap.getD r.polarity
      preSwap := none
      checkCount := none
      stats := { r.stats with swapFails := r.stats.swapFails.rise, trips := r.stats.trips.rise } })
  let s := s.postDistrict .swapFailed v (Cause.swapFailed.code + 16 * test) figure
  ((s.endGrace v).tripOrLatch v .swapFailed).deferredCopy v

/-- Where a swap is in progress, it is abandoned and its partner's grace ends (R87; R11 step 5, log 14). -/
def State.abandonSwap (s : State) (d : DistrictId) : State :=
  if (s.district d).state.isSwap then s.endGrace d else s

/-! ## Entry to OFF (R11) -/

/-- The entry to OFF of DISABLE and HOLD (R11): an abort of any soak or swap, departure from the queue and the notice.
What the notice posts (WALK-ENTRY-DONE, WALK-ENDED, a feed's SETTINGS-APPLIED) comes before the command's COMMAND-STATE:
R11 step 4 makes the notice part of this entry, R68 hands it over after the district's events, and R9 and R166 leave the
ring order open (DESIGN CHOICE, log 10). A deferred copy (step 7) is made by the command once it has posted its COMMAND-STATE, as R89 and R150 place it
(DESIGN CHOICE between R9 and R150, log 10): see `State.copyAfter`. -/
def State.toOff (s : State) (d : DistrictId) : State :=
  let f := s.feedOfDistrict d
  let soak := if (s.district d).state = .soaking then (s.district d).soak else none
  let s := s.abandonSwap d
  let s := s.modDistrict d (fun r => r.recordSoak .aborted)
  let s := s.leaveFor f d .off
  match soak with
  | some c => s.soakEndNotice f d c .aborted
  | none => s

/-! ## Darkening and the accepted fault (R99, R100, R101) -/

/-- A district enters DARK (R101). -/
def State.darken (f : FeedId) (s : State) (d : DistrictId) : State :=
  let s := s.abandonSwap d
  let s := s.modDistrict d (fun r => (r.recordSoak .aborted).enter .dark)
  s.leaveQueue f d

/-- The districts of feed `f` that a fault or CYCLE-FEED darkens (R99 step 2). -/
def State.toDarken (s : State) (f : FeedId) : List DistrictId :=
  (s.districtsOf f).filter (fun d => (s.district d).state.darkens)

/-- A district is captured in the implicated set (R100). -/
def State.isImplicated (s : State) (d : DistrictId) : Bool :=
  match (s.district d).state with
  | .soaking => true
  | .live | .swapCheck | .swapping => decide ((s.dset d).t ≤ (s.district d).latest)
  | .off | .dark | .tripped | .queued | .latched => false

/-- The capture of the implicated set; its members' suspect counts rise, to at most 2 (R100). -/
def State.capture (s : State) (f : FeedId) : State :=
  let set := (s.districtsOf f).filter s.isImplicated
  set.foldl (fun s d => s.modDistrict d (fun r => { r with suspect := min 2 (r.suspect + 1) }))
    (s.modFeed f (fun x => { x with implicated := set }))

/-- The walk of a WALKING or WALK-HALTED feed is aborted (R99 step 4). -/
def State.abortAnyWalk (s : State) (f : FeedId) : State :=
  match (s.feed f).state with
  | .walking | .walkHalted => s.abortWalk f
  | .down | .up => s

/-- The acceptance of a fault, in the order of R99; the waiting chain copy comes last (R154, log 16). -/
def State.acceptFault (s : State) (f : FeedId) : State :=
  let s := s.capture f
  let dark := s.toDarken f
  let s := dark.foldl (State.darken f) s
  let s := s.modFeed f (fun x => { x with queue := [], pool := 0, slots := 0 })
  let left := (s.feed f).state
  let s := s.abortAnyWalk f
  let s := s.modFeed f (fun x => { x with accepted := .faulted, state := .down, fell := true })
  let s := s.post { kind := .feedDown, subject := .feed f, origin := .device, detail := byteOf left.code,
                    value := districtMask (s.feed f).implicated }
  let s := dark.foldl State.deferredCopy s
  (s.copyWaitingFeed f).copyWaitingChains

end Sys2Proof.Machine
end

