-- ==== Sys2Proof/Machine/DistrictCommands.lean ====
section
/-! DEFINITION. Machine/DistrictCommands.lean: the eight commands that act on districts named in a mask
(R9 to R17). -/

namespace Sys2Proof.Machine

/-- The outcome of a mask command at one district (R9). -/
inductive Verdict where
  | done | unchanged | refused
deriving DecidableEq, Repr

/-- The state and the three sets while a mask command goes from district to district (R9). -/
structure Tally where
  state : State
  done : List DistrictId
  unchanged : List DistrictId
  refused : List DistrictId
deriving DecidableEq, Repr

/-- COMMAND-STATE for a district that a command changed (R9, R165). R165 names bits 0 to 10 of its value; the others are
0 (DESIGN CHOICE, log 27). -/
def State.postCommandState (s : State) (p : Port) (c : Command) (d : DistrictId) : State :=
  s.post { kind := .commandState, subject := .district d, origin := .port p, detail := c.code,
           value := halfOf ((s.district d).state.code + 256 * (s.district d).holds.code) }

/-- A district's deferred apply, where DISABLE or HOLD has ended its soak or swap: made once the command has posted
its COMMAND-STATE (R11 step 7, R89, R150). R9 posts that event once the district's changes are complete and R150 makes
the copy after the event has posted its events; the model counts the copy after the event (DESIGN CHOICE, log 10). -/
def State.copyAfter (s : State) (c : Command) (d : DistrictId) : State :=
  if c = .disable ∨ c = .hold then s.deferredCopy d else s

/-- One district of a mask command: an UNUSED one is refused; the command's rule decides for any other, and DONE
posts COMMAND-STATE (R9), a deferred apply coming after it (R150). COMMAND-STATE comes after the events of other blocks
that the rule brings about, those of an aborted walk soak's notice included (R9, R11, R68; DESIGN CHOICE, log 10). -/
def Tally.step (p : Port) (c : Command) (rule : DistrictId → State → State × Verdict) (t : Tally) (d : DistrictId) :
    Tally :=
  if (t.state.dset d).kind = .unused then { t with refused := t.refused ++ [d] }
  else
    match (rule d t.state).2 with
    | .done =>
      { t with state := (((rule d t.state).1).postCommandState p c d).copyAfter c d, done := t.done ++ [d] }
    | .unchanged => { t with unchanged := t.unchanged ++ [d] }
    | .refused => { t with refused := t.refused ++ [d] }

/-- A mask command at its owner: the named districts in ascending order, and the three masks (R9, R160). -/
def maskCommand (p : Port) (c : Command) (mask : Half) (rule : DistrictId → State → State × Verdict) (s : State) :
    State × Reply :=
  let t := (namedDistricts mask).foldl (Tally.step p c rule) { state := s, done := [], unchanged := [], refused := [] }
  (t.state,
    { status := maskStatus t.done t.refused
      data := halfBytes (districtMask t.done) ++ halfBytes (districtMask t.unchanged) ++
        halfBytes (districtMask t.refused) })

/-- ENABLE at one district (R10). -/
def enableRule (d : DistrictId) (s : State) : State × Verdict :=
  match (s.district d).state with
  | .off =>
    if (s.district d).holds.isEmpty then
      ((s.modDistrict d (fun r => { r with retry := 0 })).returnToService d, .done)
    else (s, .refused)
  | .latched => (s, .refused)
  | .dark | .live | .swapping | .swapCheck | .tripped | .queued | .soaking => (s, .unchanged)

/-- ENABLE (R10). -/
def execEnable (p : Port) (mask : Half) (s : State) : Host.Outcome State Fault Refusal :=
  .next (s.serve (.enable p mask) (maskCommand p .enable mask enableRule))

/-- DISABLE at one district (R11). -/
def disableRule (d : DistrictId) (s : State) : State × Verdict :=
  if (s.district d).state = .off then (s, .unchanged) else (s.toOff d, .done)

/-- DISABLE (R11). -/
def execDisable (p : Port) (mask : Half) (s : State) : Host.Outcome State Fault Refusal :=
  .next (s.serve (.disable p mask) (maskCommand p .disable mask disableRule))

/-- HOLD at one district (R12): the port is added, then the district goes to OFF. -/
def holdRule (p : Port) (d : DistrictId) (s : State) : State × Verdict :=
  if (s.district d).holds.has p = true ∧ (s.district d).state = .off then (s, .unchanged)
  else
    let s := s.modDistrict d (fun r => { r with holds := r.holds.put true p })
    (if (s.district d).state = .off then s else s.toOff d, .done)

/-- HOLD (R12). -/
def execHold (p : Port) (mask : Half) (s : State) : Host.Outcome State Fault Refusal :=
  .next (s.serve (.hold p mask) (maskCommand p .hold mask (holdRule p)))

/-- RELEASE of a port's mark at one district (R13, R14). -/
def releaseRule (q : Port) (d : DistrictId) (s : State) : State × Verdict :=
  if (s.district d).holds.has q then
    (s.modDistrict d (fun r => { r with holds := r.holds.put false q }), .done)
  else (s, .unchanged)

/-- RELEASE (R13). -/
def execRelease (p : Port) (mask : Half) (s : State) : Host.Outcome State Fault Refusal :=
  .next (s.serve (.release p mask) (maskCommand p .release mask (releaseRule p)))

/-- RELEASE-FOREIGN at its owner: a port parameter that names no port gives BAD-TARGET (R14). -/
def releaseForeign (p : Port) (mask : Half) (named : Byte) (s : State) : State × Reply :=
  match portOfCode named with
  | none => (s, Reply.badTarget)
  | some q => maskCommand p .releaseForeign mask (releaseRule q) s

/-- RELEASE_FOREIGN (R14). -/
def execReleaseForeign (p : Port) (mask : Half) (named : Byte) (s : State) : Host.Outcome State Fault Refusal :=
  .next (s.serve (.releaseForeign p mask named) (releaseForeign p mask named))

/-- CLEAR at one district (R15). -/
def clearRule (d : DistrictId) (s : State) : State × Verdict :=
  if (s.district d).state = .latched then
    ((s.modDistrict d (fun r => { r with retry := 0, suspect := 0 })).returnToService d, .done)
  else (s, .unchanged)

/-- CLEAR (R15). -/
def execClear (p : Port) (mask : Half) (s : State) : Host.Outcome State Fault Refusal :=
  .next (s.serve (.clear p mask) (maskCommand p .clear mask clearRule))

/-- MARK-SEEN at one district (R16). -/
def markSeenRule (d : DistrictId) (s : State) : State × Verdict :=
  if (s.district d).seen then (s.modDistrict d (fun r => { r with seen := false }), .done) else (s, .unchanged)

/-- MARK_SEEN (R16). -/
def execMarkSeen (p : Port) (mask : Half) (s : State) : Host.Outcome State Fault Refusal :=
  .next (s.serve (.markSeen p mask) (maskCommand p .markSeen mask markSeenRule))

/-- RESET-STATS at one district (R17). -/
def resetStatsRule (d : DistrictId) (s : State) : State × Verdict :=
  if (s.district d).stats = zeroStats then (s, .unchanged)
  else (s.modDistrict d (fun r => { r with stats := zeroStats }), .done)

/-- RESET_STATS (R17). -/
def execResetStats (p : Port) (mask : Half) (s : State) : Host.Outcome State Fault Refusal :=
  .next (s.serve (.resetStats p mask) (maskCommand p .resetStats mask resetStatsRule))

end Sys2Proof.Machine
end

