-- ==== Sys2Proof/Machine/Events.lean ====
section
/-! DEFINITION. Machine/Events.lean: timer expiries, fault-line changes and the port lines: the rows of the table
that no master sends, but for resets and samples. An expiry happens where its timer has run out: that of an idle timer,
or of one that an event has meanwhile restarted, does not happen (R5, R20, R158, R168, log 3). -/

namespace Sys2Proof.Machine

/-! ## District timers -/

/-- The cool-down of a TRIPPED district expires: it joins its feed's queue (R49). -/
def State.coolDownExpires (s : State) (d : DistrictId) : State :=
  if (s.district d).state = .tripped ∧ (s.district d).coolDown = some 0 then s.join (s.feedOfDistrict d) d else s

/-- COOL_DOWN_EXPIRY (R49). -/
def execCoolDownExpiry (d : DistrictId) (s : State) : Host.Outcome State Fault Refusal :=
  .next (s.whenRunning (fun s => s.coolDownExpires d))

/-- The settle timer expires: LENIENT, retry count 0, SETTLED with the count as it stood (R20, R165). -/
def State.settleExpires (s : State) (d : DistrictId) : State :=
  if (s.district d).state.settles = true ∧ (s.district d).settle = some 0 then
    (s.modDistrict d (fun r => { r with settle := none, mode := .lenient, retry := 0 })).postDistrict .settled d 0
      (s.district d).retry
  else s

/-- SETTLE_EXPIRY (R20). -/
def execSettleExpiry (d : DistrictId) (s : State) : Host.Outcome State Fault Refusal :=
  .next (s.whenRunning (fun s => s.settleExpires d))

/-- The dead time expires: SWAP-CHECK with a check count of 0 (R83). -/
def State.deadTimeExpires (s : State) (d : DistrictId) : State :=
  if (s.district d).state = .swapping ∧ (s.district d).deadTime = some 0 then
    s.modDistrict d (fun r => { r.enter .swapCheck with checkCount := some 0 })
  else s

/-- DEAD_TIME_EXPIRY (R83). -/
def execDeadTimeExpiry (d : DistrictId) (s : State) : Host.Outcome State Fault Refusal :=
  .next (s.whenRunning (fun s => s.deadTimeExpires d))

/-! ## Feed lines and timers -/

/-- The FLTn input takes a level (R98, R99, R102). An event that brings no change of level is none (log 17). -/
def State.lineChanges (s : State) (f : FeedId) (level : Level) : State :=
  if (s.feed f).raw = level then s
  else
    match level with
    | .faulted =>
      let s := s.modFeed f (fun x => { x with raw := .faulted, debounce := none })
      if (s.feed f).accepted = .healthy then s.acceptFault f else s
    | .healthy =>
      s.modFeed f (fun x =>
        { x with
          raw := .healthy
          debounce := if x.accepted = .faulted then some (s.fset f).debounce else x.debounce })

/-- LINE_CHANGE (R98). -/
def execLineChange (f : FeedId) (level : Level) (s : State) : Host.Outcome State Fault Refusal :=
  .next (s.whenRunning (fun s => s.lineChanges f level))

/-- The HEALTHY level is accepted (R103). -/
def State.acceptHealthy (s : State) (f : FeedId) : State :=
  let dark := s.inState f .dark
  let goes : FState := if dark.isEmpty then .up else .walking
  let s := s.modFeed f (fun x => { x with debounce := none, accepted := .healthy, rose := true })
  let s := s.post { kind := .feedUp, subject := .feed f, origin := .device, detail := byteOf goes.code,
                    value := districtMask dark }
  let s := s.modFeed f (fun x => { x with state := goes })
  if dark.isEmpty then s else s.startWalk f .device 1

/-- DEBOUNCE_EXPIRY (R103). -/
def execDebounceExpiry (f : FeedId) (s : State) : Host.Outcome State Fault Refusal :=
  .next (s.whenRunning (fun s => if (s.feed f).debounce = some 0 then s.acceptHealthy f else s))

/-- The pause of a walk expires and the link is followed (R130). -/
def State.pauseExpires (s : State) (f : FeedId) : State :=
  if (s.walk f).phase = .pausing ∧ (s.walk f).pause = some 0 then
    (s.modWalk f (fun w => { w with pause := none })).followLink f
  else s

/-- PAUSE_EXPIRY (R130). -/
def execPauseExpiry (f : FeedId) (s : State) : Host.Outcome State Fault Refusal :=
  .next (s.whenRunning (fun s => s.pauseExpires f))

/-! ## Port timers and lines (R158, R168) -/

/-- LINGER_EXPIRY (R168): the timer that has run out becomes idle and the flag is set; after a READ-EVENTS that has
restarted or stopped the timer, the expiry does not happen. -/
def execLingerExpiry (p : Port) (s : State) : Host.Outcome State Fault Refusal :=
  .next (s.whenRunning (fun s =>
    if (s.port p).lingerTimer = some 0 then
      s.modPort p (fun q => { q with lingerTimer := none, lingerExpired := true })
    else s))

/-- A reception fault: the frame is discarded, the bad-frame count rises and the receiver hunts (R158). -/
def PortRecord.receptionFault (q : PortRecord) : PortRecord :=
  { q with reception := .hunt, interByte := none, disturbed := false, badFrames := saturate q.badFrames }

/-- INTER_BYTE_TIMEOUT (R158): 5 ms without a byte in FRAME. -/
def execInterByteTimeout (p : Port) (s : State) : Host.Outcome State Fault Refusal :=
  .next (s.whenRunning (fun s =>
    if (s.port p).interByte = some 0 then s.modPort p PortRecord.receptionFault else s))

/-- The next byte of a frame is taken and the inter-byte timer starts again (R158). -/
def PortRecord.gather (q : PortRecord) (got : List Byte) : PortRecord :=
  { q with reception := .frame got, interByte := some Config.interByteMs }

/-- The port turns busy with a refusal of its own (R159 steps 1 to 3). -/
def PortRecord.refuse (q : PortRecord) (cmd : Byte) (status : Status) : PortRecord :=
  { q with
    reception := .busy, interByte := none, request := none
    response := some { cmd := cmd, status := status, data := [] } }

/-- A good frame is checked for code, role and length, and a request that passes is passed on (R159); the row of
its command takes it (log 5). -/
def PortRecord.goodFrame (q : PortRecord) (p : Port) (cmd : Byte) (ps : List Byte) : PortRecord :=
  match Command.ofCode cmd with
  | none => q.refuse cmd .badCommand
  | some c =>
    if q.role.permits c then
      if ps.length = c.paramBytes then
        { q with reception := .busy, interByte := none, request := decodeRequest p c ps, response := none }
      else q.refuse cmd .badLength
    else q.refuse cmd .refusedRole

/-- A byte with its stop bit in FRAME, `got` being LEN and what follows it so far (R157, R158). -/
def PortRecord.frameByte (q : PortRecord) (p : Port) (got : List Byte) (b : Byte) : PortRecord :=
  match got with
  | [] => if b = 0 ∨ Config.requestLenMax < b.toNat then q.receptionFault else q.gather [b]
  | len :: rest =>
    if rest.length < len.toNat then q.gather (got ++ [b])
    else if byteSum (got ++ [b]) = 0 then q.goodFrame p (rest.headD 0) rest.tail
    else q.receptionFault

/-- A byte on RXn, according to the reception state (R156, R158). -/
def PortRecord.receive (q : PortRecord) (p : Port) (b : Byte) (stopBit : Bool) : PortRecord :=
  if q.role = .disabled then q
  else
    match q.reception with
    | .hunt => if stopBit && decide (b = Config.syncRequest) then q.gather [] else q
    | .frame got => if stopBit then q.frameByte p got b else q.receptionFault
    | .busy => { q with disturbed := true }

/-- RX_BYTE (R158). -/
def execRxByte (p : Port) (b : Byte) (stopBit : Bool) (s : State) : Host.Outcome State Fault Refusal :=
  .next (s.whenRunning (fun s => s.modPort p (fun q => q.receive p b stopBit)))

/-- RESPONSE_END (R158): a disturbed BUSY period counts as one bad frame, and the receiver hunts. -/
def execResponseEnd (p : Port) (s : State) : Host.Outcome State Fault Refusal :=
  .next (s.whenRunning (fun s =>
    if (s.port p).response.isSome then
      s.modPort p (fun q =>
        { q with
          reception := .hunt
          response := none
          disturbed := false
          badFrames := if q.disturbed then saturate q.badFrames else q.badFrames })
    else s))

end Sys2Proof.Machine
end

