-- ==== Sys2Proof/Machine/Reads.lean ====
section
/-! DEFINITION. Machine/Reads.lean: the read requests, READ-EVENTS, READ-PORT-STATUS and SET-ATTENTION. The reads
change nothing but the requesting port (R156). -/

namespace Sys2Proof.Machine

/-- A read of a record: its data, or BAD-TARGET where the number names nothing. -/
def readReply (data : Option (List Byte)) : Reply :=
  match data with
  | none => Reply.badTarget
  | some bs => Reply.ok bs

/-! ## Districts (R25, R26) -/

/-- The remaining time of a timer, 0 when idle. -/
def timerMs (t : Timer) : Nat := t.getD 0

/-- The chain entry index of a WALK soak, FFh otherwise (R26). -/
def soakEntryByte : Option SoakContext → Byte
  | some { origin := .walk e, .. } => byteOf e.val
  | some _ => 0xFF
  | none => 0xFF

/-- The district summary, 28 bytes (R26). -/
def State.summary (s : State) (d : DistrictId) : List Byte :=
  let r := s.district d
  let ds := s.dset d
  [byteOf d.val, byteOf r.state.code, byteOf r.flags,
   byteOf (r.holds.code + 16 * ds.kind.code + 64 * r.occupancy.code),
   byteOf (r.retry + 16 * r.suspect + 64 * ds.feed.val), byteOf r.lastCause.code] ++
  twoBytes r.average ++
  [byteOf r.fill, byteOf ((r.soak.map (fun c => c.origin.code)).getD 0), soakEntryByte r.soak] ++
  twoBytes ((r.soak.map SoakContext.n).getD 0) ++ twoBytes ((r.soak.map SoakContext.e).getD 0) ++
  twoBytes ((r.soak.map SoakContext.cost).getD 0) ++ twoBytes (timerMs r.settle) ++
  twoBytes (if r.coolDown.isSome then timerMs r.coolDown else timerMs r.deadTime) ++
  [byteOf ((r.lastSoak.map (fun x => x.outcome.code)).getD 0)] ++ twoBytes ((r.lastSoak.map LastSoak.e).getD 0) ++
  twoBytes ((r.lastSoak.map LastSoak.used).getD 0) ++
  [byteOf (r.checkCount.getD 0), byteOf ((r.deferral.map (fun x => x.cause.code)).getD 0)]

/-- READ_DISTRICT (R26). -/
def execReadDistrict (p : Port) (number : Byte) (s : State) : Host.Outcome State Fault Refusal :=
  .next (s.serve (.readDistrict p number) (fun s => (s, readReply ((districtOf number).map s.summary))))

/-- The 8 bytes of READ-DISTRICT-STATS (R25). -/
def Stats.bytes (st : Stats) : List Byte :=
  [byteOf st.trips.count, byteOf st.excuses.count, byteOf st.recoveries.count, byteOf st.soakFails.count,
   byteOf st.latches.count, byteOf st.swaps.count, byteOf st.swapFails.count, byteOf st.rollFlags]

/-- READ_DISTRICT_STATS (R25). -/
def execReadDistrictStats (p : Port) (number : Byte) (s : State) : Host.Outcome State Fault Refusal :=
  .next (s.serve (.readDistrictStats p number)
    (fun s => (s, readReply ((districtOf number).map (fun d => (s.district d).stats.bytes)))))

/-! ## Feeds (R118, R119, R143) -/

/-- The feed section, 12 bytes (R119). -/
def State.feedSection (s : State) (f : FeedId) : List Byte :=
  let x := s.feed f
  [byteOf f.val, byteOf x.state.code, byteOf x.flags] ++ twoBytes (timerMs x.debounce) ++
    halfBytes (districtMask x.implicated) ++ twoBytes x.pool ++
    [byteOf x.slots, byteOf x.queue.length, byteOf (s.inState f .soaking).length]

/-- The walk section, 18 bytes (R143). -/
def Feed.walkSection (x : Feed) : List Byte :=
  let w := x.walk
  [byteOf w.phase.code, byteOf w.kind.code, byteOf w.position.readCode, byteOf w.memberPos, byteOf w.stepCount,
   byteOf w.flags] ++ twoBytes (timerMs w.pause) ++ halfBytes (districtMask (w.inFlight.map Member.district)) ++
    [byteOf w.admitted, byteOf w.passed, byteOf w.failed, byteOf x.completed.count, byteOf x.ended.count,
     byteOf x.abortedWalks.count, byteOf x.rollFlags, byteOf w.lastEnd.code]

/-- READ_FEED (R119, R143). -/
def execReadFeed (p : Port) (number : Byte) (s : State) : Host.Outcome State Fault Refusal :=
  .next (s.serve (.readFeed p number)
    (fun s => (s, readReply ((feedOf number).map (fun f => s.feedSection f ++ (s.feed f).walkSection)))))

/-- The data of READ-QUEUE: the feed number, the length, and the districts, head first (R118). -/
def State.queueBytes (s : State) (f : FeedId) : List Byte :=
  [byteOf f.val, byteOf (s.feed f).queue.length] ++ (s.feed f).queue.map (fun (d : DistrictId) => byteOf d.val)

/-- READ_QUEUE (R118). -/
def execReadQueue (p : Port) (number : Byte) (s : State) : Host.Outcome State Fault Refusal :=
  .next (s.serve (.readQueue p number) (fun s => (s, readReply ((feedOf number).map s.queueBytes))))

/-! ## Settings and snapshots (R46, R121, R155) -/

/-- The image a selector names: 0 active, 1 pending (R121, R155). -/
def State.imageOf (s : State) (selector : Byte) : Option Image :=
  if selector = 0 then some s.activeImage else if selector = 1 then some s.pendingImage else none

/-- The data of READ-SETTINGS, none for a selector, number or image out of range (R155). -/
def State.settingsBytes (s : State) (selector number image : Byte) : Option (List Byte) :=
  match s.imageOf image with
  | none => none
  | some i =>
    if selector = 0 then (districtOf number).map (fun d => [number, image] ++ (i.district d).bytes)
    else if selector = 1 then (feedOf number).map (fun f => [number, image] ++ (i.feed f).bytes)
    else none

/-- READ_SETTINGS (R155). -/
def execReadSettings (p : Port) (selector number image : Byte) (s : State) : Host.Outcome State Fault Refusal :=
  .next (s.serve (.readSettings p selector number image)
    (fun s => (s, readReply (s.settingsBytes selector number image))))

/-- The data of READ-CHAIN-ENTRY (R121). -/
def State.chainEntryBytes (s : State) (index image : Byte) : Option (List Byte) :=
  match s.imageOf image with
  | none => none
  | some i => (entryOf index).map (fun e => [index] ++ (i.entry e).bytes)

/-- READ_CHAIN_ENTRY (R121). -/
def execReadChainEntry (p : Port) (index image : Byte) (s : State) : Host.Outcome State Fault Refusal :=
  .next (s.serve (.readChainEntry p index image) (fun s => (s, readReply (s.chainEntryBytes index image))))

/-- The feed edge flags of the snapshot header: FELL in bits 0 to 3, ROSE in bits 4 to 7 (R46). -/
def SnapHeader.edges (h : SnapHeader) : Nat :=
  bit h.fell[0] + 2 * bit h.fell[1] + 4 * bit h.fell[2] + 8 * bit h.fell[3] + 16 * bit h.rose[0] +
    32 * bit h.rose[1] + 64 * bit h.rose[2] + 128 * bit h.rose[3]

/-- The 17 bytes of READ-SNAPSHOT (R46). -/
def State.snapshotBytes (s : State) (d : DistrictId) : List Byte :=
  let h := s.snapshot
  let c := (s.district d).snap
  [byteOf h.kind.code, portCode h.origin] ++ halfBytes h.stamp ++ [byteOf h.edges] ++ fourBytes c.charge ++
    threeBytes c.count ++ twoBytes c.peak ++ [byteOf (bit c.overflow)] ++ twoBytes c.average

/-- READ_SNAPSHOT (R46). -/
def execReadSnapshot (p : Port) (number : Byte) (s : State) : Host.Outcome State Fault Refusal :=
  .next (s.serve (.readSnapshot p number) (fun s => (s, readReply ((districtOf number).map s.snapshotBytes))))

/-! ## The port's own requests (R164, R167, R169) -/

/-- The first `k` entries from a cursor onwards (R167). -/
def Ring.readFrom (g : Ring) : Nat → RingPos → List Entry
  | 0, _ => []
  | k + 1, at' => (g.entries[at'.val]'at'.isLt) :: g.readFrom k (at' + 1)

/-- What reading `k` entries does at the port (R167), and to its linger timer (R168). -/
def PortRecord.consume (q : PortRecord) (k : Nat) : PortRecord :=
  { q with
    cursor := q.cursor + Fin.ofNat 128 k
    unread := q.unread - k
    lingerTimer := if 0 < q.unread - k then lingerOf q.linger else none
    lingerExpired := false }

/-- READ-EVENTS at its owner (R167). -/
def State.readEvents (p : Port) (count : Byte) (s : State) : State × Reply :=
  if count = 0 ∨ 8 < count.toNat then (s, Reply.badTarget)
  else
    let k := min count.toNat (s.port p).unread
    (s.modPort p (fun q => q.consume k),
      { status := if k = 0 then .unchanged else .ok
        data := (s.ring.readFrom k (s.port p).cursor).flatMap Entry.bytes })

/-- READ_EVENTS (R167). -/
def execReadEvents (p : Port) (count : Byte) (s : State) : Host.Outcome State Fault Refusal :=
  .next (s.serve (.readEvents p count) (State.readEvents p count))

/-- The 8 bytes of READ-PORT-STATUS (R164). -/
def PortRecord.statusBytes (q : PortRecord) : List Byte :=
  [byteOf (roleCode q.role), byteOf q.cursor.val, byteOf q.unread, byteOf q.badFrames, byteOf q.lost,
   byteOf (bit q.overrun + 2 * bit q.attention), byteOf q.trigger.val, byteOf q.linger.val]

/-- READ-PORT-STATUS at its owner (R164). -/
def State.readPortStatus (p : Port) (option : Byte) (s : State) : State × Reply :=
  if option = 0 then (s, Reply.ok (s.port p).statusBytes)
  else if option = 1 then
    (s.modPort p (fun q => { q with badFrames := 0, lost := 0, overrun := false }), Reply.ok (s.port p).statusBytes)
  else (s, Reply.badTarget)

/-- READ_PORT_STATUS (R164). -/
def execReadPortStatus (p : Port) (option : Byte) (s : State) : Host.Outcome State Fault Refusal :=
  .next (s.serve (.readPortStatus p option) (State.readPortStatus p option))

/-- A new trigger and linger at the port (R169). -/
def PortRecord.setAttention (q : PortRecord) (trigger linger : Fin 5) : PortRecord :=
  { q with
    trigger := trigger
    linger := linger
    lingerTimer := if 0 < q.unread then lingerOf linger else none
    lingerExpired := false }

/-- The two attention codes of a port (R169). -/
def PortRecord.attentionBytes (q : PortRecord) : List Byte := [byteOf q.trigger.val, byteOf q.linger.val]

/-- SET-ATTENTION at its owner (R169). -/
def State.setAttention (p : Port) (trigger linger : Byte) (s : State) : State × Reply :=
  match attentionCode trigger, attentionCode linger with
  | some t, some l => (s.modPort p (fun q => q.setAttention t l), Reply.ok [trigger, linger])
  | _, _ => (s, { status := .badTarget, data := (s.port p).attentionBytes })

/-- SET_ATTENTION (R169). -/
def execSetAttention (p : Port) (trigger linger : Byte) (s : State) : Host.Outcome State Fault Refusal :=
  .next (s.serve (.setAttention p trigger linger) (State.setAttention p trigger linger))

end Sys2Proof.Machine
end

