-- ==== Sys2Proof/Machine/Sampling.lean ====
section
/-! DEFINITION. Machine/Sampling.lean: SAMPLE_ARRIVAL: window, accounting, occupancy and the evaluation of the
district's state (chapters 02, 03, 04). -/

namespace Sys2Proof.Machine

/-! ## The first three steps (R29) -/

/-- A sample enters the window (R30). -/
def District.pushSample (r : District) (x : Nat) : District :=
  { r with
    window := r.window.tail ++ [x]
    sum := r.sum - r.window.headD 0 + x
    fill := min Config.windowLength (r.fill + 1) }

/-- A sample is added to the load figures, or freezes them (R40, R41). -/
def Accounting.add (a : Accounting) (x : Nat) : Accounting :=
  if a.overflow then a
  else if Config.chargeMax < a.charge + x ∨ Config.countMax < a.count + 1 then { a with overflow := true }
  else { a with charge := a.charge + x, count := a.count + 1, peak := max a.peak x }

/-- The occupancy that a full window's average gives (R32). -/
def occupancyOf (average level : Nat) : Occupancy := if level ≤ average then .occupied else .vacant

/-- The occupancy judgement, with the seen flag and the OCCUPANCY event (R32, R33). -/
def State.judgeOccupancy (s : State) (d : DistrictId) : State :=
  let r := s.district d
  let o := occupancyOf r.average (s.dset d).occLevel
  if r.fill = Config.windowLength ∧ o ≠ r.occupancy then
    let s := s.modDistrict d (fun r => { r with occupancy := o, seen := r.seen || (o == .occupied) })
    if (s.dset d).occReports then s.postDistrict .occupancy d o.code r.average else s
  else s

/-! ## The evaluation (R34) -/

/-- The hard condition (R35). -/
def State.hardMet (s : State) (d : DistrictId) (x : Nat) : Bool := decide ((s.dset d).l ≤ x)

/-- The slow condition (R35). -/
def State.slowMet (s : State) (d : DistrictId) : Bool := decide ((s.dset d).t ≤ (s.district d).average)

/-- The LIVE evaluation of a PLAIN district (R35 to R39): the hard condition first, then the slow one. -/
def State.evaluateLive (s : State) (d : DistrictId) (x : Nat) : State :=
  let average := (s.district d).average
  if s.hardMet d x then
    if (s.district d).mode = .strict then s.trip d .hard x
    else if s.slowMet d then (s.excuse d x).trip d .slow average
    else s.excuse d x
  else if s.slowMet d then s.trip d .slow average
  else s

/-- The guardian of a partner is LIVE, so a condition is deferred (R91). -/
def State.guardianLive (s : State) (d : DistrictId) : Bool :=
  match s.activeImage.guardianOf d with
  | none => false
  | some v => (s.district v).state == .live

/-- A condition is deferred by one sample (R91). -/
def State.defer (s : State) (d : DistrictId) (x : Nat) : State :=
  s.modDistrict d (fun r =>
    { r with deferral := some (if s.hardMet d x then { cause := .hard, figure := x }
                               else { cause := .slow, figure := (s.district d).average }) })

/-- The evaluation of a PLAIN district in LIVE that holds no deferral (R34's last three rows). -/
def State.evaluatePlain (s : State) (d : DistrictId) (x : Nat) : State :=
  if (s.district d).grace then s
  else if (s.hardMet d x || s.slowMet d) && s.guardianLive d then s.defer d x
  else s.evaluateLive d x

/-- A deferral is resolved (R92): an excuse for a HARD one in LENIENT, a trip otherwise. -/
def State.resolveDeferral (s : State) (d : DistrictId) (df : Deferral) : State :=
  let s := s.modDistrict d (fun r => { r with deferral := none })
  if df.cause = .hard ∧ (s.district d).mode = .lenient then s.excuse d df.figure else s.trip d df.cause df.figure

/-- The evaluation of a PLAIN district in LIVE (R34): in grace none; a deferral is resolved first. -/
def State.evaluatePartner (s : State) (d : DistrictId) (x : Nat) : State :=
  if (s.district d).grace then s
  else
    match (s.district d).deferral with
    | none => s.evaluatePlain d x
    | some df =>
      let s := s.resolveDeferral d df
      if (s.district d).state = .live then s.evaluatePlain d x else s

/-- The evaluation of a REVERSING district in LIVE (R80). -/
def State.evaluateReversing (s : State) (d : DistrictId) (x : Nat) : State :=
  if s.hardMet d x then s.swapTrigger d
  else if s.slowMet d then
    if (s.dset d).swapOnSlow then s.swapTrigger d else s.trip d .slow (s.district d).average
  else s

/-- The swap check (R84). -/
def State.evaluateCheck (s : State) (d : DistrictId) (x : Nat) : State :=
  if s.hardMet d x then s.swapFail d 1 x
  else if s.slowMet d then s.swapFail d 2 (s.district d).average
  else
    let count := (s.district d).checkCount.getD 0 + 1
    let s := s.modDistrict d (fun r => { r with checkCount := some count })
    if count = (s.dset d).checkWindow then s.swapSuccess d else s

/-- The excess of a sample above the holding level (R60 step 3). -/
def excessOf (x h : Nat) : Nat := x - h

/-- The soak arithmetic (R60). -/
def State.evaluateSoak (s : State) (d : DistrictId) (x : Nat) : State :=
  match (s.district d).soak with
  | none => s
  | some c =>
    let c := { c with n := c.n + 1 }
    if s.hardMet d x then s.soakFail d c .hard
    else
      let c := { c with e := min Config.soakMax (c.e + excessOf x (s.dset d).h) }
      if (s.dset d).q < c.e then s.soakFail d c .excess
      else if c.n = (s.dset d).w then
        if (s.district d).average ≤ (s.dset d).h then s.soakPass d c else s.soakFail d c .unsettled
      else s.modDistrict d (fun r => { r with soak := some c })

/-- The evaluation that belongs to the district's state and kind (R34). -/
def State.evaluate (s : State) (d : DistrictId) (x : Nat) : State :=
  match (s.district d).state with
  | .soaking => s.evaluateSoak d x
  | .swapCheck => s.evaluateCheck d x
  | .live => if (s.dset d).kind = .reversing then s.evaluateReversing d x else s.evaluatePartner d x
  | .off | .dark | .swapping | .tripped | .queued | .latched => s

/-- A sample at a record (R28, R29): discarded for an UNUSED district and at an OPEN switch, else its four steps. -/
def State.takeSample (s : State) (d : DistrictId) (x : Nat) : State :=
  if (s.dset d).kind = .unused ∨ (s.district d).switch = .opened then s
  else
    let s := s.modDistrict d (fun r => { r.pushSample x with acct := r.acct.add x })
    (s.judgeOccupancy d).evaluate d x

/-- SAMPLE_ARRIVAL (R27, R29). -/
def execSampleArrival (d : DistrictId) (level : Int) (s : State) : Host.Outcome State Fault Refusal :=
  .next (s.whenRunning (fun s => s.takeSample d (senseCount level)))

end Sys2Proof.Machine
end

