-- ==== Sys2Proof/Machine/SettingsCommands.lean ====
section
/-! DEFINITION. Machine/SettingsCommands.lean: SET-DISTRICT, SET-FEED, SET-CHAIN-ENTRY, APPLY and APPLY-CHAINS
(R145 to R154). -/

namespace Sys2Proof.Machine

/-- The reply of a SET command: OK or OK-CLAMPED with the value as written (R145, R146). -/
def writtenReply (sent written : Nat) : Reply :=
  { status := if written = sent then .ok else .okClamped, data := twoBytes written }

/-- SET-DISTRICT at its owner (R145). -/
def State.writeDistrict (number field : Byte) (value : Half) (s : State) : State × Reply :=
  match districtOf number with
  | none => (s, Reply.badTarget)
  | some d =>
    if 15 < field.toNat then (s, Reply.badTarget)
    else
      let v := clampDistrictField field.toNat value.toNat
      ({ s with
          pendingImage := s.pendingImage.withDistrict d ((s.pendingImage.district d).write field.toNat v) },
        writtenReply value.toNat v)

/-- SET_DISTRICT (R145). -/
def execSetDistrict (p : Port) (number field : Byte) (value : Half) (s : State) : Host.Outcome State Fault Refusal :=
  .next (s.serve (.setDistrict p number field value) (State.writeDistrict number field value))

/-- SET-FEED at its owner (R146). -/
def State.writeFeed (number field : Byte) (value : Half) (s : State) : State × Reply :=
  match feedOf number with
  | none => (s, Reply.badTarget)
  | some f =>
    if 4 < field.toNat then (s, Reply.badTarget)
    else
      let v := clampFeedField field.toNat value.toNat
      ({ s with pendingImage := s.pendingImage.withFeed f ((s.pendingImage.feed f).write field.toNat v) },
        writtenReply value.toNat v)

/-- SET_FEED (R146). -/
def execSetFeed (p : Port) (number field : Byte) (value : Half) (s : State) : Host.Outcome State Fault Refusal :=
  .next (s.serve (.setFeed p number field value) (State.writeFeed number field value))

/-- SET-CHAIN-ENTRY at its owner (R147). -/
def State.writeChainEntry (index : Byte) (entry : EntryBytes) (s : State) : State × Reply :=
  match entryOf index with
  | none => (s, Reply.badTarget)
  | some e =>
    ({ s with pendingImage := s.pendingImage.withEntry e (chainEntryOf entry) },
      { status := if chainEntryClamped entry then .okClamped else .ok
        data := [index] ++ (chainEntryOf entry).bytes })

/-- SET_CHAIN_ENTRY (R147). -/
def execSetChainEntry (p : Port) (index : Byte) (entry : EntryBytes) (s : State) :
    Host.Outcome State Fault Refusal :=
  .next (s.serve (.setChainEntry p index entry) (State.writeChainEntry index entry))

/-- The state and the sets that APPLY reports, while it goes from district to district and feed to feed (R148). -/
structure ApplyTally where
  state : State
  copied : List DistrictId
  deferred : List DistrictId
  corrected : List DistrictId
  feedsCopied : List FeedId
  feedsDeferred : List FeedId
deriving DecidableEq, Repr

/-- One named district of APPLY: corrected, then copied or deferred (R148 to R150). -/
def ApplyTally.district (p : Port) (named : Half) (t : ApplyTally) (d : DistrictId) : ApplyTally :=
  let corrected := if (t.state.correction named d).any then t.corrected ++ [d] else t.corrected
  let s := t.state.correct named (.port p) d
  if (s.district d).state.defersApply then
    { t with
      state := s.modDistrict d (fun r => { r with applyDeferred := true })
      deferred := t.deferred ++ [d], corrected := corrected }
  else { t with state := s.copyDistrict d, copied := t.copied ++ [d], corrected := corrected }

/-- One named feed of APPLY: copied if no district of it is SOAKING, else deferred (R115, R153). -/
def ApplyTally.feed (t : ApplyTally) (f : FeedId) : ApplyTally :=
  if (t.state.inState f .soaking).isEmpty then
    { t with state := t.state.copyFeed f, feedsCopied := t.feedsCopied ++ [f] }
  else
    { t with
      state := t.state.modFeed f (fun x => { x with applyDeferred := true })
      feedsDeferred := t.feedsDeferred ++ [f] }

/-- APPLY at its owner (R148). -/
def State.applySettings (p : Port) (districts : Half) (feeds : Byte) (s : State) : State × Reply :=
  if 15 < feeds.toNat then (s, Reply.badTarget)
  else
    let t : ApplyTally := { state := s, copied := [], deferred := [], corrected := [], feedsCopied := [],
                            feedsDeferred := [] }
    let t := (namedDistricts districts).foldl (ApplyTally.district p districts) t
    let t := (namedFeeds feeds).foldl ApplyTally.feed t
    let s := t.state
    let s :=
      if districts = 0 ∧ feeds = 0 then s
      else s.post { kind := .settingsApplied, subject := .nothing, origin := .port p, detail := feeds,
                    value := districts }
    (s,
      { status := if t.corrected.isEmpty then .ok else .okClamped
        data := halfBytes (districtMask t.copied) ++ halfBytes (districtMask t.deferred) ++
          halfBytes (districtMask t.corrected) ++
          [byteOf (feedMask t.feedsCopied + 16 * feedMask t.feedsDeferred)] })

/-- APPLY (R148). -/
def execApply (p : Port) (districts : Half) (feeds : Byte) (s : State) : Host.Outcome State Fault Refusal :=
  .next (s.serve (.apply p districts feeds) (State.applySettings p districts feeds))

/-- APPLY-CHAINS at its owner (R154). -/
def State.applyChains (p : Port) (s : State) : State × Reply :=
  if s.anyWalk then ({ s with chainApplyWaiting := true }, Reply.ok [1])
  else (s.copyChains (.port p), Reply.ok [0])

/-- APPLY_CHAINS (R154). -/
def execApplyChains (p : Port) (s : State) : Host.Outcome State Fault Refusal :=
  .next (s.serve (.applyChains p) (State.applyChains p))

end Sys2Proof.Machine
end

