-- ==== Sys2Proof/Machine/Snapshots.lean ====
section
/-! DEFINITION. Machine/Snapshots.lean: SNAPSHOT and SNAPSHOT-KEEP (R42 to R45). -/

namespace Sys2Proof.Machine

/-- A district's running figures and window average are copied (R43). -/
def District.copyFigures (r : District) : District :=
  { r with snap := { charge := r.acct.charge, count := r.acct.count, peak := r.acct.peak,
                     overflow := r.acct.overflow, average := r.average } }

/-- A district's running figures start again (R43). -/
def District.restartFigures (r : District) : District := { r with acct := zeroAccounting }

/-- A feed's edge flags are cleared (R106). -/
def Feed.clearEdges (x : Feed) : Feed := { x with fell := false, rose := false }

/-- A snapshot command at its owner: the header, the copies at every district, for SNAPSHOT the new period and the
cleared edge flags, and SNAPSHOT-TAKEN (R43, R44). -/
def State.takeSnapshot (p : Port) (keep : Bool) (s : State) : State × Reply :=
  let header : SnapHeader :=
    { kind := if keep then .keep else .snapshot
      origin := p
      stamp := s.now
      fell := s.feeds.map Feed.fell
      rose := s.feeds.map Feed.rose }
  let frozen := allDistricts.filter (fun d => (s.district d).acct.overflow)
  let t : State :=
    { s with
      snapshot := header
      districts := s.districts.map (fun r => if keep then r.copyFigures else r.copyFigures.restartFigures)
      feeds := if keep then s.feeds else s.feeds.map Feed.clearEdges }
  (t.post { kind := .snapshotTaken, subject := .nothing, origin := .port p, detail := byteOf (bit keep),
            value := districtMask frozen }, Reply.ok (halfBytes s.now))

/-- SNAPSHOT (R43). -/
def execSnapshot (p : Port) (s : State) : Host.Outcome State Fault Refusal :=
  .next (s.serve (.snapshot p) (State.takeSnapshot p false))

/-- SNAPSHOT_KEEP (R44). -/
def execSnapshotKeep (p : Port) (s : State) : Host.Outcome State Fault Refusal :=
  .next (s.serve (.snapshotKeep p) (State.takeSnapshot p true))

end Sys2Proof.Machine
end

