-- ==== Sys2Proof/Machine/StartUp.lean ====
section
/-! DEFINITION. Machine/StartUp.lean: the store, SAVE, resets and start-up (chapter 10). -/

namespace Sys2Proof.Machine

/-- The store is valid: its check word holds the check word of its image (R170). -/
def Nv.valid (n : Nv) : Bool := n.check == some n.image.check

/-- The image a start loads: the stored one if the store is valid, else the defaults (R172 step 2). -/
def Nv.loaded (n : Nv) : Image := if n.valid then n.image else defaultImage

/-- A reset keeps the store (R170), and ends a write: the check word stays erased and the image is partly written
(R171, log 7). -/
def Nv.cutOff (n : Nv) : Nv :=
  match n.writing with
  | none => n
  | some _ => { n with image := Config.tornImage n.writes, check := none, writing := none }

/-- The level of a fault input among the sampled pins (R98). -/
def faultInput (pins : StartPins) : FeedId → Level
  | 0 => pins.flt0
  | 1 => pins.flt1
  | 2 => pins.flt2
  | 3 => pins.flt3

/-- The state a district starts in (R8). -/
def startState (autostart : Bool) (ds : DistrictSet) : DState :=
  if autostart ∧ ds.kind ≠ .unused then .dark else .off

/-- The start-up sequence when reset ends, up to the append of POWER-UP (R172 steps 1 to 3). -/
def State.cleared (s : State) (pins : StartPins) : State :=
  let nv := s.nv.cutOff
  let image := nv.loaded
  { pending := s.pending
    inReset := false
    now := 0
    autostart := pins.autost
    districts := image.districts.map (fun ds => resetDistrict (startState pins.autost ds))
    feeds := Vector.ofFn (fun (f : FeedId) => resetFeed (faultInput pins f) (image.feed f).debounce)
    pendingImage := image
    activeImage := image
    chainApplyWaiting := false
    snapshot := resetHeader
    ring := resetRing
    ports :=
      { a := resetPort (roleOfStraps pins.roleA)
        b := resetPort (roleOfStraps pins.roleB)
        c := resetPort (roleOfStraps pins.roleC) }
    nv := nv }

/-- The value of POWER-UP: the roles of A, B and C and the AUTOSTART strap (R165). -/
def State.powerUpValue (s : State) : Nat :=
  roleCode s.ports.a.role + 4 * roleCode s.ports.b.role + 16 * roleCode s.ports.c.role + 64 * bit s.autostart

/-- A start (R172): every block at its reset values and POWER-UP appended; `pin` is set for RESET-PIN. R165 names bits 0
and 1 of its detail and bits 0 to 6 of its value; the others are 0 (DESIGN CHOICE, log 27). -/
def State.startUp (s : State) (pin : Bool) (pins : StartPins) : State :=
  let t := s.cleared pins
  t.post { kind := .powerUp, subject := .nothing, origin := .device,
           detail := byteOf (bit pin + 2 * bit (!t.nv.valid)), value := halfOf t.powerUpValue }

/-- POWER_ON (R172). -/
def execPowerOn (pins : StartPins) (s : State) : Host.Outcome State Fault Refusal := .next (s.startUp false pins)

/-- RESET_PIN (R172). -/
def execResetPin (pins : StartPins) (s : State) : Host.Outcome State Fault Refusal := .next (s.startUp true pins)

/-- A port in reset: its frame is lost, its response stops, TX is released (R159). -/
def PortRecord.silenced (q : PortRecord) : PortRecord :=
  { q with reception := .hunt, interByte := none, disturbed := false, request := none, response := none }

/-- RESET_ASSERTED (R159, R171, R172): the outputs go low or are released, frames and responses are lost, and a
write ends. The records wait for the start that resets them (log 8). -/
def execResetAsserted (s : State) : Host.Outcome State Fault Refusal :=
  .next { s with inReset := true, ports := s.ports.map PortRecord.silenced, nv := s.nv.cutOff }

/-- SAVE at its owner (R171 steps 1 to 4): refused while writing, else the active image is captured, the check word
erased and the write begun. -/
def State.saveStarts (p : Port) (s : State) : State × Reply :=
  match s.nv.writing with
  | some _ => (s, { status := .refusedBusy, data := [] })
  | none =>
    ({ s with nv :=
        { image := s.nv.image, check := none
          writing := some { origin := p, capture := s.activeImage, check := s.activeImage.check,
                            remaining := Config.storeWriteMs }
          writes := s.nv.writes + 1 } }, Reply.ok [])

/-- SAVE (R171). -/
def execSave (p : Port) (s : State) : Host.Outcome State Fault Refusal :=
  .next (s.serve (.save p) (State.saveStarts p))

/-- The write ends (R171 step 5): valid with the new image and STORE-SAVED, or erased again and STORE-FAILED. -/
def State.writeEnds (s : State) (matched : Bool) : State :=
  match s.nv.writing with
  | none => s
  | some w =>
    let nv : Nv :=
      { image := if matched then w.capture else Config.tornImage s.nv.writes
        check := if matched then some w.check else none
        writing := none
        writes := s.nv.writes }
    { s with nv := nv }.post
      { kind := if matched then .storeSaved else .storeFailed, subject := .nothing, origin := .port w.origin,
        detail := 0, value := w.check }

/-- STORE_WRITE_END (R171). -/
def execStoreWriteEnd (matched : Bool) (s : State) : Host.Outcome State Fault Refusal :=
  .next (s.whenRunning (fun s => s.writeEnds matched))

end Sys2Proof.Machine
end

