-- ==== Sys2Proof/Machine/WalkCommands.lean ====
section
/-! DEFINITION. Machine/WalkCommands.lean: CYCLE-FEED (R116) and the walk commands (R134 to R137). -/

namespace Sys2Proof.Machine

/-- A command that names one feed: BAD-TARGET above 3 (R116, R134). -/
def feedCommand (number : Byte) (act : FeedId → State → State × Reply) (s : State) : State × Reply :=
  match feedOf number with
  | none => (s, Reply.badTarget)
  | some f => act f s

/-- CYCLE-FEED accepted (R116): darkening, WALKING, the deferred copies of the districts it darkened, each made from
DARK (R89, R116 step 4), and the walk, whose first visit works from the copied settings (DEDUCED, log 11). A join that
would have been granted at once, but comes after the command, finds no queue to join: a TRIPPED district has been
darkened and has no cool-down left (R51, R101), and ENABLE, CLEAR or a fresh start leaves its district DARK on the
WALKING feed (R10, R15, R152), where R117's table has it join the frozen queue (DESIGN CHOICE against that row,
log 24). -/
def State.cycle (s : State) (p : Port) (f : FeedId) : State :=
  let dark := s.toDarken f
  let s := dark.foldl (State.darken f) s
  let s := s.modFeed f (fun x => { x with state := .walking })
  (dark.foldl State.deferredCopy s).startWalk f (.port p) 2

/-- CYCLE-FEED at its owner (R116). -/
def cycleRule (p : Port) (f : FeedId) (s : State) : State × Reply :=
  if (s.feed f).state = .up ∧ (s.inState f .soaking).isEmpty = true then
    (s.cycle p f, Reply.ok (halfBytes (districtMask (s.toDarken f))))
  else (s, { status := .refusedBusy, data := [] })

/-- CYCLE_FEED (R116). -/
def execCycleFeed (p : Port) (number : Byte) (s : State) : Host.Outcome State Fault Refusal :=
  .next (s.serve (.cycleFeed p number) (feedCommand number (cycleRule p)))

/-- A walk command's reply: the feed's state code after the command (R134, R160). -/
def walkReply (status : Status) (f : FeedId) (s : State) : State × Reply :=
  (s, { status := status, data := [byteOf (s.feed f).state.code] })

/-- HALT-WALK at its owner (R134). -/
def haltRule (p : Port) (f : FeedId) (s : State) : State × Reply :=
  if (s.feed f).state = .walking then walkReply .ok f (s.haltWalk f (.port p) .command)
  else walkReply .refusedBusy f s

/-- HALT_WALK (R134). -/
def execHaltWalk (p : Port) (number : Byte) (s : State) : Host.Outcome State Fault Refusal :=
  .next (s.serve (.haltWalk p number) (feedCommand number (haltRule p)))

/-- A halted walk goes on (R135): WALK-STARTED, then the held entry's pause or link, or admission again. -/
def State.resumeWalk (s : State) (p : Port) (f : FeedId) : State :=
  let s := s.modFeed f (fun x => { x with state := .walking })
  let s := s.postWalkStarted f (.port p) 3
  match (s.walk f).phase with
  | .entryHeld => s.pauseOrLink (State.visitEntry f) f
  | .inEntry => s.resumeEntry f
  | .idle | .pausing => s

/-- RESUME-WALK at its owner (R135). -/
def resumeRule (p : Port) (f : FeedId) (s : State) : State × Reply :=
  if (s.feed f).state = .walkHalted then walkReply .ok f (s.resumeWalk p f) else walkReply .refusedBusy f s

/-- RESUME_WALK (R135). -/
def execResumeWalk (p : Port) (number : Byte) (s : State) : Host.Outcome State Fault Refusal :=
  .next (s.serve (.resumeWalk p number) (feedCommand number (resumeRule p)))

/-- END-WALK at its owner (R136). -/
def endRule (p : Port) (f : FeedId) (s : State) : State × Reply :=
  if (s.feed f).state = .walking ∨ (s.feed f).state = .walkHalted then
    walkReply .ok f (s.endWalk f (.port p) .command)
  else walkReply .refusedBusy f s

/-- END_WALK (R136). -/
def execEndWalk (p : Port) (number : Byte) (s : State) : Host.Outcome State Fault Refusal :=
  .next (s.serve (.endWalk p number) (feedCommand number (endRule p)))

/-- The three error flags of a walk are cleared (R137). -/
def Walk.clearErrors (w : Walk) : Walk := { w with linkError := false, foreignMember := false, memberFailed := false }

/-- CLEAR-WALK-ERRORS at its owner (R137). -/
def clearErrorsRule (f : FeedId) (s : State) : State × Reply :=
  let w := s.walk f
  walkReply (if w.linkError || w.foreignMember || w.memberFailed then .ok else .unchanged) f
    (s.modWalk f Walk.clearErrors)

/-- CLEAR_WALK_ERRORS (R137). -/
def execClearWalkErrors (p : Port) (number : Byte) (s : State) : Host.Outcome State Fault Refusal :=
  .next (s.serve (.clearWalkErrors p number) (feedCommand number clearErrorsRule))

end Sys2Proof.Machine
end

