-- ==== Sys2Proof/Machine/Dispatch.lean ====
section
/-! DEFINITION. Machine/Dispatch.lean: one arm for each row of spec/opcode_table.json. -/

namespace Sys2Proof.Machine

def exec (i : Instr) (s : State) : Host.Outcome State Fault Refusal :=
  match i with
  | .powerOn pins => Sys2Proof.Machine.execPowerOn pins s
  | .resetPin pins => Sys2Proof.Machine.execResetPin pins s
  | .sampleArrival d level => Sys2Proof.Machine.execSampleArrival d level s
  | .coolDownExpiry d => Sys2Proof.Machine.execCoolDownExpiry d s
  | .settleExpiry d => Sys2Proof.Machine.execSettleExpiry d s
  | .deadTimeExpiry d => Sys2Proof.Machine.execDeadTimeExpiry d s
  | .lineChange f level => Sys2Proof.Machine.execLineChange f level s
  | .debounceExpiry f => Sys2Proof.Machine.execDebounceExpiry f s
  | .pauseExpiry f => Sys2Proof.Machine.execPauseExpiry f s
  | .lingerExpiry p => Sys2Proof.Machine.execLingerExpiry p s
  | .interByteTimeout p => Sys2Proof.Machine.execInterByteTimeout p s
  | .rxByte p b stopBit => Sys2Proof.Machine.execRxByte p b stopBit s
  | .responseEnd p => Sys2Proof.Machine.execResponseEnd p s
  | .storeWriteEnd matched => Sys2Proof.Machine.execStoreWriteEnd matched s
  | .readDistrict p number => Sys2Proof.Machine.execReadDistrict p number s
  | .readDistrictStats p number => Sys2Proof.Machine.execReadDistrictStats p number s
  | .readFeed p number => Sys2Proof.Machine.execReadFeed p number s
  | .readQueue p number => Sys2Proof.Machine.execReadQueue p number s
  | .readSettings p selector number image => Sys2Proof.Machine.execReadSettings p selector number image s
  | .readChainEntry p index image => Sys2Proof.Machine.execReadChainEntry p index image s
  | .readSnapshot p number => Sys2Proof.Machine.execReadSnapshot p number s
  | .readEvents p count => Sys2Proof.Machine.execReadEvents p count s
  | .readPortStatus p option => Sys2Proof.Machine.execReadPortStatus p option s
  | .setAttention p trigger linger => Sys2Proof.Machine.execSetAttention p trigger linger s
  | .enable p mask => Sys2Proof.Machine.execEnable p mask s
  | .disable p mask => Sys2Proof.Machine.execDisable p mask s
  | .hold p mask => Sys2Proof.Machine.execHold p mask s
  | .release p mask => Sys2Proof.Machine.execRelease p mask s
  | .releaseForeign p mask named => Sys2Proof.Machine.execReleaseForeign p mask named s
  | .clear p mask => Sys2Proof.Machine.execClear p mask s
  | .markSeen p mask => Sys2Proof.Machine.execMarkSeen p mask s
  | .resetStats p mask => Sys2Proof.Machine.execResetStats p mask s
  | .snapshot p => Sys2Proof.Machine.execSnapshot p s
  | .snapshotKeep p => Sys2Proof.Machine.execSnapshotKeep p s
  | .setDistrict p number field value => Sys2Proof.Machine.execSetDistrict p number field value s
  | .setFeed p number field value => Sys2Proof.Machine.execSetFeed p number field value s
  | .setChainEntry p index entry => Sys2Proof.Machine.execSetChainEntry p index entry s
  | .apply p districts feeds => Sys2Proof.Machine.execApply p districts feeds s
  | .applyChains p => Sys2Proof.Machine.execApplyChains p s
  | .save p => Sys2Proof.Machine.execSave p s
  | .cycleFeed p number => Sys2Proof.Machine.execCycleFeed p number s
  | .haltWalk p number => Sys2Proof.Machine.execHaltWalk p number s
  | .resumeWalk p number => Sys2Proof.Machine.execResumeWalk p number s
  | .endWalk p number => Sys2Proof.Machine.execEndWalk p number s
  | .clearWalkErrors p number => Sys2Proof.Machine.execClearWalkErrors p number s
  | .resetAsserted => Sys2Proof.Machine.execResetAsserted s

end Sys2Proof.Machine
end

