-- ==== Sys2Proof/Machine/Timebase.lean ====
section
/-! DEFINITION. Machine/Timebase.lean: what the part does on an empty queue (log 2, DESIGN CHOICE): it takes an expiry
that is due or a request a port has passed on, and where there is none one millisecond passes. -/

namespace Sys2Proof.Machine

/-! ## One millisecond -/

/-- A running timer counts down; a timer that has run out waits at 0 for its expiry to be taken (R5). -/
def Timer.tick (t : Timer) : Timer := t.map (fun n => n - 1)

/-- A millisecond at a district's timers. -/
def District.tick (r : District) : District :=
  { r with coolDown := Timer.tick r.coolDown, settle := Timer.tick r.settle, deadTime := Timer.tick r.deadTime }

/-- A millisecond at a feed's timers. -/
def Feed.tick (x : Feed) : Feed :=
  { x with debounce := Timer.tick x.debounce, walk := { x.walk with pause := Timer.tick x.walk.pause } }

/-- A millisecond at a port's timers. -/
def PortRecord.tick (q : PortRecord) : PortRecord :=
  { q with interByte := Timer.tick q.interByte, lingerTimer := Timer.tick q.lingerTimer }

/-- A millisecond of a store write. -/
def Nv.tick (n : Nv) : Nv :=
  { n with writing := n.writing.map (fun w => { w with remaining := w.remaining - 1 }) }

/-- One millisecond passes: the Timebase count rises, wrapping, and every running timer counts down (R165, R5). -/
def State.tick (s : State) : State :=
  { s with
    now := s.now + 1
    districts := s.districts.map District.tick
    feeds := s.feeds.map Feed.tick
    ports := s.ports.map PortRecord.tick
    nv := s.nv.tick }

/-- What an empty queue leaves the part to do when nothing is due: in reset nothing, else a millisecond passes. -/
def State.idle (s : State) : State := s.whenRunning State.tick

/-! ## What is due -/

/-- The expiries due at district `d`, each in the state its rule takes it (R20, R49, R83). -/
def State.dueAtDistrict (s : State) (d : DistrictId) : List Instr :=
  let r := s.district d
  (if r.state = .tripped ∧ r.coolDown = some 0 then [.coolDownExpiry d] else []) ++
    (if r.state.settles = true ∧ r.settle = some 0 then [.settleExpiry d] else []) ++
    (if r.state = .swapping ∧ r.deadTime = some 0 then [.deadTimeExpiry d] else [])

/-- The expiries due at feed `f` (R103, R130). -/
def State.dueAtFeed (s : State) (f : FeedId) : List Instr :=
  let x := s.feed f
  (if x.debounce = some 0 then [.debounceExpiry f] else []) ++
    (if x.walk.phase = .pausing ∧ x.walk.pause = some 0 then [.pauseExpiry f] else [])

/-- The expiries due at port `p`, and the request it has passed on (R158, R159, R168). -/
def State.dueAtPort (s : State) (p : Port) : List Instr :=
  let q := s.port p
  (if q.interByte = some 0 then [.interByteTimeout p] else []) ++
    (if q.lingerTimer = some 0 then [.lingerExpiry p] else []) ++ q.request.toList

/-- The end of a store write that has run its full time; the read-back is the free value of log 6 (R171). -/
def State.dueAtStore (s : State) : List Instr :=
  match s.nv.writing with
  | none => []
  | some w => if w.remaining = 0 then [.storeWriteEnd (Config.readBackMatches s.nv.writes)] else []

/-- The first command the part takes by itself on an empty queue, none in reset or when nothing is due (log 2). -/
def State.dueCommand (s : State) : Option Instr :=
  if s.inReset then none
  else
    (allDistricts.flatMap s.dueAtDistrict ++ allFeeds.flatMap s.dueAtFeed ++ allPorts.flatMap s.dueAtPort ++
      s.dueAtStore).head?

end Sys2Proof.Machine
end

