-- ==== Sys2Proof/Machine/Step.lean ====
section
/-! DEFINITION. Machine/Step.lean: one step: the command at the front of the queue, or on an empty queue what the
part does by itself (log 2). -/

namespace Sys2Proof.Machine

/-- One step: the front command is taken, run on the rest of the queue, and its outcome answered. On an empty queue
the part takes what is due, and otherwise idles for a millisecond (log 2, DESIGN CHOICE). -/
def step (s : State) : Host.Outcome State Fault Refusal :=
  match s.pending with
  | c :: rest => exec c { s with pending := rest }
  | [] =>
    match s.dueCommand with
    | some c => exec c s
    | none => .next s.idle

/-- The state with the command a word spells put at the front of its queue; unchanged where the word spells none,
as is every word of this table (log 20). -/
def State.withFetchWord (s : State) (nbits w : Nat) : State :=
  match decodeTableWord nbits w with
  | none => s
  | some c => { s with pending := c :: s.pending }

end Sys2Proof.Machine
end

