-- ==== Sys2Proof/Laws/PerInstr.lean ====
section
/-! SUPPORT. Laws/PerInstr.lean: the family RequestLength, one lemma per constructor of Instr. -/

namespace Sys2Proof.Laws.RequestLength

/-- A command that is a request travels with exactly the parameter count R161 fixes for its code (R157, R159). -/
def Statement (i : Instr) : Prop :=
  ∀ (p : Port) (c : Command) (ps : List Byte), encodeRequest i = some (p, c, ps) → ps.length = c.paramBytes

/-- A row that is no request satisfies the statement. -/
theorem of_no_request {i : Instr} (h : encodeRequest i = none) : Statement i := by
  intro p c ps h'
  rw [h] at h'
  cases h'

/-- A request of the right length satisfies the statement. -/
theorem of_request {i : Instr} {p : Port} {c : Command} {ps : List Byte} (h : encodeRequest i = some (p, c, ps))
    (hl : ps.length = c.paramBytes) : Statement i := by
  intro p' c' ps' h'
  rw [h] at h'
  cases h'
  exact hl

theorem powerOn (pins : StartPins) : Statement (.powerOn pins) :=
  of_no_request rfl

theorem resetPin (pins : StartPins) : Statement (.resetPin pins) :=
  of_no_request rfl

theorem sampleArrival (d : DistrictId) (level : Int) : Statement (.sampleArrival d level) :=
  of_no_request rfl

theorem coolDownExpiry (d : DistrictId) : Statement (.coolDownExpiry d) :=
  of_no_request rfl

theorem settleExpiry (d : DistrictId) : Statement (.settleExpiry d) :=
  of_no_request rfl

theorem deadTimeExpiry (d : DistrictId) : Statement (.deadTimeExpiry d) :=
  of_no_request rfl

theorem lineChange (f : FeedId) (level : Level) : Statement (.lineChange f level) :=
  of_no_request rfl

theorem debounceExpiry (f : FeedId) : Statement (.debounceExpiry f) :=
  of_no_request rfl

theorem pauseExpiry (f : FeedId) : Statement (.pauseExpiry f) :=
  of_no_request rfl

theorem lingerExpiry (p : Port) : Statement (.lingerExpiry p) :=
  of_no_request rfl

theorem interByteTimeout (p : Port) : Statement (.interByteTimeout p) :=
  of_no_request rfl

theorem rxByte (p : Port) (b : Byte) (stopBit : Bool) : Statement (.rxByte p b stopBit) :=
  of_no_request rfl

theorem responseEnd (p : Port) : Statement (.responseEnd p) :=
  of_no_request rfl

theorem storeWriteEnd (matched : Bool) : Statement (.storeWriteEnd matched) :=
  of_no_request rfl

theorem readDistrict (p : Port) (number : Byte) : Statement (.readDistrict p number) :=
  of_request rfl rfl

theorem readDistrictStats (p : Port) (number : Byte) : Statement (.readDistrictStats p number) :=
  of_request rfl rfl

theorem readFeed (p : Port) (number : Byte) : Statement (.readFeed p number) :=
  of_request rfl rfl

theorem readQueue (p : Port) (number : Byte) : Statement (.readQueue p number) :=
  of_request rfl rfl

theorem readSettings (p : Port) (selector : Byte) (number : Byte) (image : Byte) : Statement (.readSettings p selector number image) :=
  of_request rfl rfl

theorem readChainEntry (p : Port) (index : Byte) (image : Byte) : Statement (.readChainEntry p index image) :=
  of_request rfl rfl

theorem readSnapshot (p : Port) (number : Byte) : Statement (.readSnapshot p number) :=
  of_request rfl rfl

theorem readEvents (p : Port) (count : Byte) : Statement (.readEvents p count) :=
  of_request rfl rfl

theorem readPortStatus (p : Port) (option : Byte) : Statement (.readPortStatus p option) :=
  of_request rfl rfl

theorem setAttention (p : Port) (trigger : Byte) (linger : Byte) : Statement (.setAttention p trigger linger) :=
  of_request rfl rfl

theorem enable (p : Port) (mask : Half) : Statement (.enable p mask) :=
  of_request rfl rfl

theorem disable (p : Port) (mask : Half) : Statement (.disable p mask) :=
  of_request rfl rfl

theorem hold (p : Port) (mask : Half) : Statement (.hold p mask) :=
  of_request rfl rfl

theorem release (p : Port) (mask : Half) : Statement (.release p mask) :=
  of_request rfl rfl

theorem releaseForeign (p : Port) (mask : Half) (named : Byte) : Statement (.releaseForeign p mask named) :=
  of_request rfl rfl

theorem clear (p : Port) (mask : Half) : Statement (.clear p mask) :=
  of_request rfl rfl

theorem markSeen (p : Port) (mask : Half) : Statement (.markSeen p mask) :=
  of_request rfl rfl

theorem resetStats (p : Port) (mask : Half) : Statement (.resetStats p mask) :=
  of_request rfl rfl

theorem snapshot (p : Port) : Statement (.snapshot p) :=
  of_request rfl rfl

theorem snapshotKeep (p : Port) : Statement (.snapshotKeep p) :=
  of_request rfl rfl

theorem setDistrict (p : Port) (number : Byte) (field : Byte) (value : Half) : Statement (.setDistrict p number field value) :=
  of_request rfl rfl

theorem setFeed (p : Port) (number : Byte) (field : Byte) (value : Half) : Statement (.setFeed p number field value) :=
  of_request rfl rfl

theorem setChainEntry (p : Port) (index : Byte) (entry : EntryBytes) : Statement (.setChainEntry p index entry) :=
  of_request rfl rfl

theorem apply (p : Port) (districts : Half) (feeds : Byte) : Statement (.apply p districts feeds) :=
  of_request rfl rfl

theorem applyChains (p : Port) : Statement (.applyChains p) :=
  of_request rfl rfl

theorem save (p : Port) : Statement (.save p) :=
  of_request rfl rfl

theorem cycleFeed (p : Port) (number : Byte) : Statement (.cycleFeed p number) :=
  of_request rfl rfl

theorem haltWalk (p : Port) (number : Byte) : Statement (.haltWalk p number) :=
  of_request rfl rfl

theorem resumeWalk (p : Port) (number : Byte) : Statement (.resumeWalk p number) :=
  of_request rfl rfl

theorem endWalk (p : Port) (number : Byte) : Statement (.endWalk p number) :=
  of_request rfl rfl

theorem clearWalkErrors (p : Port) (number : Byte) : Statement (.clearWalkErrors p number) :=
  of_request rfl rfl

theorem resetAsserted : Statement (.resetAsserted) :=
  of_no_request rfl

end Sys2Proof.Laws.RequestLength
end

