-- ==== Sys2Proof/Safety.lean ====
section
/-! DEFINITION. Safety.lean: what the numbered rules say of every state of the part, as invariants, and runs of a
list of commands. Each invariant is a decidable proposition. -/

namespace Sys2Proof.Machine

/-! ## Runs -/

/-- The state after the commands of a list, run one after the other; none where one of them does not answer a next
state. -/
def runAll : List Instr → State → Option State
  | [], s => some s
  | c :: rest, s =>
    match exec c s with
    | .next t => runAll rest t
    | .fault _ => none
    | .refused _ => none

/-- A request that its port may send now: the part runs, the port's role permits the command, and the port is not BUSY
with an exchange (R156, R158, R159). -/
abbrev State.MayRequest (s : State) (p : Port) (c : Command) : Prop :=
  s.inReset = false ∧ (s.port p).role.permits c = true ∧ (s.port p).reception ≠ .busy

/-- The command is due on an empty queue (log 2): the expiry of a timer that stands at 0 at a district, feed or port
(R20, R49, R83, R103, R130, R158, R168), a request that waits at its port (R159), or the end of a store write whose
60 ms are up, its read-back being the free value of log 6 (R171). -/
abbrev State.IsDue (s : State) (c : Instr) : Prop :=
  (∃ d, c = .coolDownExpiry d ∧ (s.district d).state = .tripped ∧ (s.district d).coolDown = some 0) ∨
  (∃ d, c = .settleExpiry d ∧ (s.district d).settle = some 0 ∧
    ((s.district d).state = .live ∨ (s.district d).state = .swapping ∨ (s.district d).state = .swapCheck)) ∨
  (∃ d, c = .deadTimeExpiry d ∧ (s.district d).state = .swapping ∧ (s.district d).deadTime = some 0) ∨
  (∃ f, c = .debounceExpiry f ∧ (s.feed f).debounce = some 0) ∨
  (∃ f, c = .pauseExpiry f ∧ (s.walk f).phase = .pausing ∧ (s.walk f).pause = some 0) ∨
  (∃ p, c = .interByteTimeout p ∧ (s.port p).interByte = some 0) ∨
  (∃ p, c = .lingerExpiry p ∧ (s.port p).lingerTimer = some 0) ∨
  (∃ p, (s.port p).request = some c) ∨
  (∃ w, s.nv.writing = some w ∧ w.remaining = 0 ∧ c = .storeWriteEnd (Config.readBackMatches s.nv.writes))

/-- Beside district records, events and what the ports hold, nothing differs. -/
abbrev State.SameElsewhere (s t : State) : Prop :=
  t.pending = s.pending ∧ t.inReset = s.inReset ∧ t.now = s.now ∧ t.autostart = s.autostart ∧ t.feeds = s.feeds ∧
    t.pendingImage = s.pendingImage ∧ t.activeImage = s.activeImage ∧ t.chainApplyWaiting = s.chainApplyWaiting ∧
    t.snapshot = s.snapshot ∧ t.nv = s.nv

/-- Beside district and feed records, events and what the ports hold, nothing differs. -/
abbrev State.SameBeside (s t : State) : Prop :=
  t.pending = s.pending ∧ t.inReset = s.inReset ∧ t.now = s.now ∧ t.autostart = s.autostart ∧
    t.pendingImage = s.pendingImage ∧ t.activeImage = s.activeImage ∧ t.chainApplyWaiting = s.chainApplyWaiting ∧
    t.snapshot = s.snapshot ∧ t.nv = s.nv

/-- The events posted, and what they do at the ports, are those of `u` (R166, R168). -/
abbrev State.ReportsLike (t u : State) : Prop := t.ring = u.ring ∧ t.ports = u.ports

/-! ## What the rules say of one event, in plain words -/

/-- The window average a sample leaves: the 8 newest samples, divided by 8 and truncated (R30). -/
def District.averageWith (r : District) (x : Nat) : Nat := (r.window.tail ++ [x]).sum / 8

/-- The load figures after a sample: added, or frozen with the overflow flag set (R40, R41). -/
def Accounting.counted (a : Accounting) (x : Nat) : Accounting :=
  if a.overflow = true then a
  else if a.charge + x ≤ 4294967295 ∧ a.count + 1 ≤ 16777215 then
    { charge := a.charge + x, count := a.count + 1, peak := if a.peak < x then x else a.peak, overflow := false }
  else { a with overflow := true }

/-- The occupancy after a sample (R32). -/
def District.occupancyWith (r : District) (ds : DistrictSet) (x : Nat) : Occupancy :=
  if r.fill < 7 then r.occupancy else if ds.occLevel ≤ r.averageWith x then .occupied else .vacant

/-- A district record after the window, accounting and occupancy steps of a sample (R29 to R33, R40, R41). -/
def District.sampled (r : District) (ds : DistrictSet) (x : Nat) : District :=
  { r with
    window := r.window.tail ++ [x]
    sum := (r.window.tail ++ [x]).sum
    fill := if r.fill < 8 then r.fill + 1 else 8
    occupancy := r.occupancyWith ds x
    seen := r.seen || (decide (r.occupancyWith ds x = .occupied) && decide (r.occupancy ≠ .occupied))
    acct := r.acct.counted x }

/-- A district record whose switch has opened (R31). -/
def District.darkened (r : District) (st : DState) : District :=
  { r with
    state := st, switch := .opened, window := [0, 0, 0, 0, 0, 0, 0, 0], sum := 0, fill := 0, occupancy := .unknown,
    settle := none }

/-- A counter one higher: from 255 it wraps to 0 and its flag is set (R25, R141). -/
def Counter.oneMore (c : Counter) : Counter :=
  if c.count < 255 then { c with count := c.count + 1 } else { count := 0, rolled := true }

/-- The sample and the district's limits: the hard condition (R35). -/
abbrev State.MeetsHard (s : State) (d : DistrictId) (x : Nat) : Prop := (s.dset d).l ≤ x

/-- The window average with the sample and the trip level: the slow condition (R35). -/
abbrev State.MeetsSlow (s : State) (d : DistrictId) (x : Nat) : Prop := (s.dset d).t ≤ (s.district d).averageWith x

/-- The state after the window, accounting and occupancy steps of a sample, with the OCCUPANCY event where the
judgement changed and the district reports it (R29, R33). -/
def State.recorded (s : State) (d : DistrictId) (x : Nat) : State :=
  if (s.dset d).occReports = true ∧ (s.district d).occupancyWith (s.dset d) x ≠ (s.district d).occupancy then
    (s.setDistrict d ((s.district d).sampled (s.dset d) x)).postDistrict .occupancy d
      ((s.district d).occupancyWith (s.dset d) x).code ((s.district d).averageWith x)
  else s.setDistrict d ((s.district d).sampled (s.dset d) x)

/-- The district has been excused a sample `figure` (R36). -/
def State.excusedAt (s : State) (d : DistrictId) (figure : Nat) : State :=
  (s.modDistrict d (fun r =>
    { r with
      mode := .strict
      settle := some (s.dset d).settle
      stats := { r.stats with excuses := r.stats.excuses.oneMore } })).postDistrict .excused d 1 figure

/-- A failed district: TRIPPED with its cool-down started while the retry count is below R, else LATCHED with the
counter and the event of R23 (R22, R48). -/
def State.tripsOrLatches (s : State) (d : DistrictId) (cause : Cause) : State :=
  if (s.district d).retry < (s.dset d).r then
    s.modDistrict d (fun r => { r.darkened .tripped with coolDown := some (s.dset d).coolDown })
  else
    (s.modDistrict d (fun r =>
      { r.darkened .latched with stats := { r.stats with latches := r.stats.latches.oneMore } })).postDistrict
      .latched d cause.code (s.district d).retry

/-- The district has tripped from LIVE, `figure` being what met the limit (R39). -/
def State.trippedBy (s : State) (d : DistrictId) (why : Condition) (figure : Nat) : State :=
  ((s.modDistrict d (fun r =>
    { r with
      lastCause := why.cause
      mode := .strict
      stats := { r.stats with trips := r.stats.trips.oneMore } })).postDistrict .trip d why.code figure).tripsOrLatches
    d why.cause

/-- No LIVE district has `d` as its active partner, so no condition of `d` is deferred (R91). -/
abbrev State.Unguarded (s : State) (d : DistrictId) : Prop :=
  ∀ v : DistrictId, s.activeImage.partnerOf v = some d → (s.district v).state ≠ .live

/-- The partner of `v`, if it has an active one, with its grace ended (R85, R86). -/
def State.partnerGraceOver (s : State) (v : DistrictId) : State :=
  match s.activeImage.partnerOf v with
  | some p => s.modDistrict p (fun r => { r with grace := false })
  | none => s

/-- E after a soak sample: the excess above H is added, saturating (R60, R62). -/
def SoakContext.sumWith (c : SoakContext) (h x : Nat) : Nat := if c.e + (x - h) < 65535 then c.e + (x - h) else 65535

/-- The end of a soak of `d` in success, at the district, with E at `e` (R67, R74). -/
def State.soakPassedAt (s : State) (d : DistrictId) (c : SoakContext) (e : Nat) : State :=
  (s.modDistrict d (fun r =>
    { r with
      state := .live, soak := none, mode := .strict, settle := some (s.dset d).settle, suspect := 0
      stats := { r.stats with recoveries := r.stats.recoveries.oneMore }
      lastSoak := some { e := e, used := c.n + 1, outcome := .passed } })).postDistrict .soakPassed d
    (16 * c.origin.code) e

/-- The end of a soak of `d` in failure `why`, at the district, with E at `e` (R22, R66, R67). -/
def State.soakFailedAt (s : State) (d : DistrictId) (c : SoakContext) (why : SoakFailure) (e : Nat) : State :=
  ((s.modDistrict d (fun r =>
    { r with
      lastCause := why.cause, soak := none
      stats := { r.stats with soakFails := r.stats.soakFails.oneMore }
      lastSoak := some { e := e, used := c.n + 1, outcome := why.outcome } })).postDistrict .soakFailed d
    (why.cause.code + 16 * c.origin.code) e).tripsOrLatches d why.cause

/-- The record of a district that an accepted fault, or CYCLE-FEED, darkens: DARK, with every field of an energised
state absent and a soak in progress recorded as ABORTED (R101). -/
def District.faultDark (r : District) : District :=
  { r.darkened .dark with
    soak := none, deferral := none, grace := false, preSwap := none, checkCount := none, coolDown := none
    deadTime := none
    lastSoak := match r.soak with
      | some c => some { e := c.e, used := c.n, outcome := .aborted }
      | none => r.lastSoak }

/-- The walk context after its walk has ended or been aborted (R139, R140); what the rules do not name is kept
(log 12). -/
def Walk.over (w : Walk) (how : LastEnd) : Walk :=
  { w with phase := .idle, kind := .none, inFlight := [], entryAdmitted := false, waiting := false, pause := none,
           lastEnd := how }

/-- A district that a walk or a grant has put into a soak of this origin and cost (R55, R75). -/
def District.soaksFrom (r : District) (origin : SoakOrigin) (cost : Nat) : District :=
  { r with
    state := .soaking, switch := .closed, coolDown := none
    soak := some { origin := origin, n := 0, e := 0, cost := cost } }

/-- The number whose binary digits are these flags, lowest first. -/
def flagsNumber : List Bool → Nat
  | [] => 0
  | b :: rest => (if b = true then 1 else 0) + 2 * flagsNumber rest

/-- The reply of a mask command of which the districts `done` changed and `refused` were refused, both among the named
districts (R9, R160). -/
def threeMasks (mask : Half) (done refused : DistrictId → Bool) : Reply :=
  { status := if (namedDistricts mask).any refused then .partly
      else if (namedDistricts mask).any done then .ok else .unchanged
    data := halfBytes (districtMask ((namedDistricts mask).filter done)) ++
      halfBytes (districtMask ((namedDistricts mask).filter (fun d => !done d && !refused d))) ++
      halfBytes (districtMask ((namedDistricts mask).filter refused)) }

/-- The state `s` with one COMMAND-STATE posted for each of these districts, in order, with the state code and hold set
they have in `t` (R9, R165). -/
def State.announced (s t : State) (p : Port) (code : Byte) (changed : List DistrictId) : State :=
  changed.foldl (fun u d => u.post
    { kind := .commandState, subject := .district d, origin := .port p, detail := code
      value := halfOf ((t.district d).state.code +
        256 * flagsNumber [(t.district d).holds.a, (t.district d).holds.b, (t.district d).holds.c]) }) s

/-- A district that a mask names and that takes part: its active kind is not UNUSED (R9). -/
def State.handles (s : State) (mask : Half) (d : DistrictId) : Bool :=
  mask.getLsbD d.val && decide ((s.dset d).kind ≠ .unused)

/-- The record of a district that DISABLE or HOLD takes to OFF (R11). -/
def District.switchedOff (r : District) : District := { r.faultDark with state := .off }

/-- SET-DISTRICT's field `k` written with the value `v` sent, and the value as written (R145). -/
def DistrictSet.fieldWritten (ds : DistrictSet) (k v : Nat) : DistrictSet × Nat :=
  match k with
  | 0 => ({ ds with feed := Fin.ofNat 4 (min v 3) }, min v 3)
  | 1 => ({ ds with kind := if v = 0 then .plain else if v = 1 then .reversing else .unused }, min v 2)
  | 2 => ({ ds with h := min v 1021 }, min v 1021)
  | 3 => ({ ds with t := max 1 (min v 1022) }, max 1 (min v 1022))
  | 4 => ({ ds with l := max 2 (min v 1023) }, max 2 (min v 1023))
  | 5 => ({ ds with q := v }, v)
  | 6 => ({ ds with w := max 8 (min v 400) }, max 8 (min v 400))
  | 7 => ({ ds with r := max 1 (min v 15) }, max 1 (min v 15))
  | 8 => ({ ds with coolDown := max 10 (min v 5000) }, max 10 (min v 5000))
  | 9 => ({ ds with settle := max 100 (min v 60000) }, max 100 (min v 60000))
  | 10 => ({ ds with occLevel := max 1 (min v 1023) }, max 1 (min v 1023))
  | 11 => ({ ds with occReports := decide (v ≠ 0) }, min v 1)
  | 12 => ({ ds with partner := if v ≤ 15 then some (Fin.ofNat 16 v) else none }, if v ≤ 15 then v else 255)
  | 13 => ({ ds with deadTime := max 1 (min v 20) }, max 1 (min v 20))
  | 14 => ({ ds with checkWindow := max 8 (min v 200) }, max 8 (min v 200))
  | _ => ({ ds with swapOnSlow := decide (v ≠ 0) }, min v 1)

/-- SET-FEED's field `k` written with the value `v` sent, and the value as written (R146). -/
def FeedSet.fieldWritten (fs : FeedSet) (k v : Nat) : FeedSet × Nat :=
  match k with
  | 0 => ({ fs with p := max 1 (min v 4092) }, max 1 (min v 4092))
  | 1 => ({ fs with s := max 1 (min v 4) }, max 1 (min v 4))
  | 2 => ({ fs with debounce := max 1 (min v 100) }, max 1 (min v 100))
  | 3 => ({ fs with haltOnError := decide (v ≠ 0) }, min v 1)
  | _ => ({ fs with chainHead := if v ≤ 63 then some (Fin.ofNat 64 v) else none }, if v ≤ 63 then v else 255)

/-- The state of a part that a reset has just ended in, `pin` being set for a RESET-PIN start (R8, R166, R172). -/
def StartedFrom (pin : Bool) (pins : StartPins) (s t : State) : Prop :=
  t.inReset = false ∧ t.now = 0 ∧ t.pending = s.pending ∧ t.autostart = pins.autost ∧
    t.pendingImage = t.activeImage ∧ t.chainApplyWaiting = false ∧ t.snapshot = resetHeader ∧
    (s.nv.writing = none → t.nv = s.nv) ∧
    (s.nv.writing.isSome = true → t.nv.check = none ∧ t.nv.writing = none) ∧
    (s.nv.writing = none → s.nv.check = some s.nv.image.check → t.activeImage = s.nv.image) ∧
    (s.nv.writing.isSome = true ∨ s.nv.check ≠ some s.nv.image.check → t.activeImage = defaultImage) ∧
    (∀ d, t.district d =
      resetDistrict (if pins.autost = true ∧ (t.dset d).kind ≠ .unused then .dark else .off)) ∧
    (∀ f, t.feed f = resetFeed (faultInput pins f) (t.fset f).debounce) ∧
    (t.port .a).role = roleOfStraps pins.roleA ∧ (t.port .b).role = roleOfStraps pins.roleB ∧
    (t.port .c).role = roleOfStraps pins.roleC ∧
    (∀ p, t.port p =
      { resetPort (t.port p).role with unread := if (t.port p).role = .disabled then 0 else 1 }) ∧
    t.ring.write = 1 ∧ (∀ i : RingPos, i ≠ 0 → t.ring.entries[i.val]'i.isLt = zeroEntry) ∧
    t.ring.entries[0] =
      { kind := 0x01, subject := 0xFF, origin := 3,
        detail := byteOf (flagsNumber [pin, decide (t.nv.check ≠ some t.nv.image.check)]),
        value := halfOf (roleCode (t.port .a).role + 4 * roleCode (t.port .b).role +
          16 * roleCode (t.port .c).role + if pins.autost = true then 64 else 0),
        stamp := 0 }

/-! ## District records (R2, R4, R6, R25, R30, R31, R40, R58, R62, R100) -/

/-- The seven statistics lie within 0 to 255 (R25). -/
abbrev Stats.InRange (st : Stats) : Prop :=
  st.trips.count ≤ 255 ∧ st.excuses.count ≤ 255 ∧ st.recoveries.count ≤ 255 ∧ st.soakFails.count ≤ 255 ∧
    st.latches.count ≤ 255 ∧ st.swaps.count ≤ 255 ∧ st.swapFails.count ≤ 255

/-- The running figures lie within their limits (R40). -/
abbrev Accounting.InRange (a : Accounting) : Prop :=
  a.charge ≤ 4294967295 ∧ a.count ≤ 16777215 ∧ a.peak ≤ 1023

/-- The window is 8 sense counts with their sum, and it is clear while the switch is OPEN (R30, R31). -/
abbrev District.WindowLaw (r : District) : Prop :=
  r.window.length = 8 ∧ (∀ x ∈ r.window, x ≤ 1023) ∧ r.sum = r.window.sum ∧ r.fill ≤ 8 ∧
    (r.switch = .opened → r.window = [0, 0, 0, 0, 0, 0, 0, 0] ∧ r.fill = 0 ∧ r.occupancy = .unknown)

/-- The timers that run and the fields that are present are those of the state (R6, R58). -/
abbrev District.FieldLaw (r : District) : Prop :=
  (r.soak.isSome = true ↔ r.state = .soaking) ∧
    (r.preSwap.isSome = true ↔ r.state = .swapping ∨ r.state = .swapCheck) ∧
    (r.checkCount.isSome = true ↔ r.state = .swapCheck) ∧ (r.deferral.isSome = true → r.state = .live) ∧
    (r.grace = true → r.state = .live) ∧ (r.coolDown.isSome = true → r.state = .tripped) ∧
    (r.settle.isSome = true → r.state = .live ∨ r.state = .swapping ∨ r.state = .swapCheck) ∧
    (r.deadTime.isSome = true → r.state = .swapping)

/-- A district record by itself: switch, hold set, fields, window, suspect count, statistics and figures
(R2, R4, R6, R25, R30, R31, R40, R58, R100). -/
abbrev District.Lawful (r : District) : Prop :=
  (r.switch = .closed ↔ r.state = .live ∨ r.state = .swapCheck ∨ r.state = .soaking) ∧
    (r.holds.a = true ∨ r.holds.b = true ∨ r.holds.c = true → r.state = .off) ∧ r.FieldLaw ∧
    r.WindowLaw ∧ r.suspect ≤ 2 ∧ r.stats.InRange ∧ r.acct.InRange

/-- A sample `x` reaches the record of district `d`: the part runs, the district is not UNUSED, and its record is a
lawful one. Whether its switch is CLOSED is told by its state. -/
abbrev State.SampleReaches (s : State) (d : DistrictId) (x : Nat) : Prop :=
  x ≤ 1023 ∧ s.inReset = false ∧ (s.dset d).kind ≠ .unused ∧ (s.district d).Lawful

/-- A district record beside its active settings (R3, R6, R7, R21, R62, R78). -/
abbrev District.FitsSettings (r : District) (ds : DistrictSet) : Prop :=
  r.retry ≤ ds.r ∧ (r.soak.all (fun c => decide (c.e ≤ ds.q)) = true) ∧ (ds.kind = .unused → r.state = .off) ∧
    (r.state = .swapping ∨ r.state = .swapCheck → ds.kind = .reversing) ∧
    (r.polarity = .swapped → ds.kind = .reversing) ∧
    (r.grace = true → ds.kind = .plain) ∧ (r.deferral.isSome = true → ds.kind = .plain)

/-- Every district record is lawful and fits its active settings. -/
abbrev State.DistrictsLawful (s : State) : Prop :=
  ∀ d : DistrictId, (s.district d).Lawful ∧ (s.district d).FitsSettings (s.dset d)

/-- Grace is set only while the REVERSING district that has the district as active partner swaps (R90). -/
abbrev State.GraceLaw (s : State) : Prop :=
  ∀ d : DistrictId, (s.district d).grace = true →
    ∃ v : DistrictId, s.activeImage.partnerOf v = some d ∧
      ((s.district v).state = .swapping ∨ (s.district v).state = .swapCheck)

/-! ## The grant rule and what follows a soak's end, in plain words (R55, R111, R113, R115, R149 to R153) -/

/-- The cost of a soak of `d` on feed `f`: the smaller of L and P (R55, R111). -/
def State.costOn (s : State) (f : FeedId) (d : DistrictId) : Nat :=
  if (s.dset d).l ≤ (s.fset f).p then (s.dset d).l else (s.fset f).p

/-- The costs of these districts together. -/
def State.costsOn (s : State) (f : FeedId) (ds : List DistrictId) : Nat := (ds.map (s.costOn f)).sum

/-- The grant rule of feed `f` grants exactly the first `hs` of the queue and leaves `rest` (R111): the granted are
QUEUED, the feed is UP with no copy waiting, and slots and pool allow them all; the head of `rest` fits no longer. -/
abbrev State.GrantsAre (s : State) (f : FeedId) (hs rest : List DistrictId) : Prop :=
  (s.feed f).queue = hs ++ rest ∧ hs.Nodup ∧ (∀ h ∈ hs, (s.district h).state = .queued ∧ (s.district h).Lawful) ∧
    (hs ≠ [] → (s.feed f).state = .up ∧ (s.feed f).applyDeferred = false ∧
      (s.feed f).slots + hs.length ≤ (s.fset f).s ∧ (s.feed f).pool + s.costsOn f hs ≤ (s.fset f).p) ∧
    ∀ h, rest.head? = some h →
      (s.feed f).state ≠ .up ∨ (s.feed f).applyDeferred = true ∨ (s.fset f).s ≤ (s.feed f).slots + hs.length ∨
        (s.fset f).p < (s.feed f).pool + s.costsOn f hs + s.costOn f h

/-- The districts `hs` are granted: each is SOAKING with an INDIVIDUAL origin and its retry count one higher, up to R;
their slots and costs are taken and `rest` stays in the queue (R55, R111). -/
def State.withGranted (s : State) (f : FeedId) (hs rest : List DistrictId) : State :=
  (hs.foldl (fun u h => u.modDistrict h (fun r =>
    { r.soaksFrom .individual (s.costOn f h) with
      retry := if r.retry < (s.dset h).r then r.retry + 1 else (s.dset h).r })) s).modFeed f (fun x =>
    { x with queue := rest, pool := x.pool + s.costsOn f hs, slots := x.slots + hs.length })

/-- District `d` is QUEUED at the tail of feed `f`'s queue (R53, R108). -/
def State.queuedAt (s : State) (f : FeedId) (d : DistrictId) : State :=
  (s.modDistrict d (fun r => { r with state := .queued, coolDown := none })).modFeed f (fun x =>
    { x with queue := x.queue ++ [d] })

/-- The waiting copy of feed `f`'s settings is made, before the grant rule runs (R115, R153). -/
def State.feedCopied (s : State) (f : FeedId) : State :=
  ({ s with activeImage := s.activeImage.withFeed f (s.pendingImage.feed f) }.modFeed f (fun x =>
    { x with applyDeferred := false })).post
    { kind := .settingsApplied, subject := .feed f, origin := .device, detail := 32 + 1 <<< f.val, value := 0 }

/-- What the end of a soak leaves to do at its feed once cost and slot are back (R113, R115): the grant rule runs;
where a copy of the feed's settings waits, nothing is granted, and the copy is made, with a run of the grant rule,
if no district of the feed is SOAKING any more. -/
def State.FeedSettles (s : State) (f : FeedId) (t : State) : Prop :=
  ((s.feed f).applyDeferred = false → ∀ hs rest, s.GrantsAre f hs rest → t = s.withGranted f hs rest) ∧
  ((s.feed f).applyDeferred = true → (∃ d, s.feedOfDistrict d = f ∧ (s.district d).state = .soaking) → t = s) ∧
  ((s.feed f).applyDeferred = true → (∀ d, s.feedOfDistrict d = f → (s.district d).state ≠ .soaking) →
    ∀ hs rest, (s.feedCopied f).GrantsAre f hs rest → t = (s.feedCopied f).withGranted f hs rest)

/-- Cost and slot of an ended soak return to its feed (R113). -/
def State.costReturned (s : State) (f : FeedId) (c : SoakContext) : State :=
  s.modFeed f (fun x =>
    { x with pool := x.pool - c.cost, slots := if c.origin = .individual then x.slots - 1 else x.slots })

/-- T after the first correction of an apply (R149). -/
def DistrictSet.correctedT (ds : DistrictSet) : Nat := if ds.t ≤ ds.h then ds.h + 1 else ds.t

/-- L after the second correction of an apply (R149). -/
def DistrictSet.correctedL (ds : DistrictSet) : Nat :=
  if ds.l ≤ ds.correctedT then ds.correctedT + 1 else ds.l

/-- The partner setting of district `d`'s set does not stand beside the sets that `view` gives the others: the partner
is the district itself or not PLAIN, or a lower REVERSING district names it as well (R149 step 3). -/
abbrev DistrictSet.PartnerFalls (ds : DistrictSet) (view : DistrictId → DistrictSet) (d : DistrictId) : Prop :=
  ds.kind = .reversing ∧ ∃ p, ds.partner = some p ∧
    (p = d ∨ (view p).kind ≠ .plain ∨ ∃ e, e < d ∧ (view e).kind = .reversing ∧ (view e).partner = some p)

/-- A set after the three corrections (R149). -/
def DistrictSet.corrected (ds : DistrictSet) (view : DistrictId → DistrictSet) (d : DistrictId) : DistrictSet :=
  { ds with t := ds.correctedT, l := ds.correctedL, partner := if ds.PartnerFalls view d then none else ds.partner }

/-- SETTINGS-CORRECTED for a set that `after` replaces: which corrections were made, and the T it has (R149). -/
def correctedEvent (d : DistrictId) (origin : Origin) (before after : DistrictSet) : Event :=
  { kind := .settingsCorrected, subject := .district d, origin := origin
    detail := byteOf (flagsNumber [decide (after.t ≠ before.t), decide (after.l ≠ before.l),
      decide (after.partner ≠ before.partner)])
    value := halfOf after.t }

/-- District `d`'s pending set corrected, with its event where that changes it; every other district is read with its
active set (R149, R150). -/
def State.setCorrected (s : State) (origin : Origin) (d : DistrictId) : State :=
  if (s.pendingImage.district d).corrected s.dset d = s.pendingImage.district d then s
  else
    { s with
      pendingImage := s.pendingImage.withDistrict d ((s.pendingImage.district d).corrected s.dset d) }.post
    (correctedEvent d origin (s.pendingImage.district d) ((s.pendingImage.district d).corrected s.dset d))

/-- The active set of `d` is its pending one: the retry count is at most the new R, and a district whose guardian that
changes loses its grace and its deferral (R21, R79, R151). -/
def State.setCopied (s : State) (d : DistrictId) : State :=
  let image := s.activeImage.withDistrict d (s.pendingImage.district d)
  { s with
    activeImage := image
    districts := Vector.ofFn (fun (e : DistrictId) =>
      { s.district e with
        retry := if e = d then min (s.district e).retry (s.pendingImage.district d).r else (s.district e).retry
        grace := (s.district e).grace && decide (image.guardianOf e = s.activeImage.guardianOf e)
        deferral := if image.guardianOf e = s.activeImage.guardianOf e then (s.district e).deferral else none }) }

/-- The return of the DARK district `d` to service on feed `f`: it stays DARK while the feed is not UP, and joins the
feed's queue otherwise, where the grant rule runs (R112, R152 step 4). -/
def State.Returns (s : State) (f : FeedId) (d : DistrictId) (t : State) : Prop :=
  ((s.feed f).state ≠ .up → t = s) ∧
  ((s.feed f).state = .up →
    ∀ hs rest, (s.queuedAt f d).GrantsAre f hs rest → t = (s.queuedAt f d).withGranted f hs rest)

/-- These districts return to service one after the other, by ENABLE or CLEAR from port `p` with this command code: the
retry count is 0, for CLEAR (`clears`) the suspect count too, the district returns to its feed, and its COMMAND-STATE
follows with the state then reached (R9, R10, R15; SOAKING after a grant: log 10). -/
def State.ReturnedBy (p : Port) (code : Byte) (clears : Bool) : List DistrictId → State → State → Prop
  | [], s, t => t = s
  | d :: rest, s, t =>
    ∃ u, (s.modDistrict d (fun r =>
        { r with state := .dark, retry := 0, suspect := if clears = true then 0 else r.suspect })).Returns
        (s.feedOfDistrict d) d u ∧
      State.ReturnedBy p code clears rest (u.post
        { kind := .commandState, subject := .district d, origin := .port p, detail := code
          value := halfOf ((u.district d).state.code + 256 * flagsNumber
            [(u.district d).holds.a, (u.district d).holds.b, (u.district d).holds.c]) }) t

/-- What a copy of district `d`'s settings does, `s` being the state it finds (R150 to R152): with feed and kind
unchanged a QUEUED district's feed runs the grant rule and nothing else follows; with a change of either, polarity is
NORMAL unless the kind is REVERSING, OFF and LATCHED stay (a LATCHED one that is now UNUSED goes OFF), and any other
district leaves its queue and starts afresh: OFF where it is UNUSED, else DARK and back to service on its feed. -/
def State.Copies (s : State) (d : DistrictId) (t : State) : Prop :=
  ∀ u, u = s.setCopied d →
    (u.feedOfDistrict d = s.feedOfDistrict d ∧ (u.dset d).kind = (s.dset d).kind →
      ((s.district d).state ≠ .queued → t = u) ∧
      ((s.district d).state = .queued →
        ∀ hs rest, u.GrantsAre (s.feedOfDistrict d) hs rest → t = u.withGranted (s.feedOfDistrict d) hs rest)) ∧
    (u.feedOfDistrict d ≠ s.feedOfDistrict d ∨ (u.dset d).kind ≠ (s.dset d).kind →
      ∀ v, v = u.modDistrict d (fun r =>
          { r with polarity := if (u.dset d).kind = .reversing then r.polarity else .normal }) →
        ((s.district d).state = .off → t = v) ∧
        ((s.district d).state = .latched →
          t = if (u.dset d).kind = .unused then v.modDistrict d (fun r => { r with state := .off }) else v) ∧
        ((s.district d).state = .dark ∨ (s.district d).state = .live ∨ (s.district d).state = .tripped →
          ((u.dset d).kind = .unused → t = v.modDistrict d District.switchedOff) ∧
          ((u.dset d).kind ≠ .unused → (v.modDistrict d District.faultDark).Returns (u.feedOfDistrict d) d t)) ∧
        ((s.district d).state = .queued →
          ∀ w, w = (v.modDistrict d (fun r =>
              if (u.dset d).kind = .unused then r.switchedOff else r.faultDark)).modFeed (s.feedOfDistrict d) (fun x =>
              { x with queue := x.queue.filter (fun e => e ≠ d) }) →
            ∀ hs rest, w.GrantsAre (s.feedOfDistrict d) hs rest →
              ((u.dset d).kind = .unused → t = w.withGranted (s.feedOfDistrict d) hs rest) ∧
              ((u.dset d).kind ≠ .unused →
                (w.withGranted (s.feedOfDistrict d) hs rest).Returns (u.feedOfDistrict d) d t)))

/-- What is left to do at a district that has left SOAKING, SWAPPING or SWAP-CHECK (R150): a waiting copy is corrected
again, reported by SETTINGS-APPLIED and made. -/
def State.DistrictSettles (s : State) (d : DistrictId) (t : State) : Prop :=
  ((s.district d).applyDeferred = false → t = s) ∧
  ((s.district d).applyDeferred = true → (s.district d).state ≠ .soaking → (s.district d).state ≠ .swapping →
    (s.district d).state ≠ .swapCheck →
    (((s.setCorrected .device d).modDistrict d (fun r => { r with applyDeferred := false })).post
      { kind := .settingsApplied, subject := .district d, origin := .device, detail := 16
        value := 1 <<< d.val }).Copies d t)

/-- The districts that one event has taken out of SOAKING, SWAPPING or SWAP-CHECK settle one after the other (R150). -/
def State.DistrictsSettle : List DistrictId → State → State → Prop
  | [], s, t => t = s
  | d :: rest, s, t => ∃ u, s.DistrictSettles d u ∧ State.DistrictsSettle rest u t

/-! ## Walks, in plain words (R123, R125 to R130, R133, R139) -/

/-- The walk of feed `f` has started, before its first visit: its context is cleared, its kind is that of the chain
head, and WALK-STARTED is posted with its reason (R123, R142). -/
def State.walkBegun (s : State) (f : FeedId) (origin : Origin) (reason : Byte) : State :=
  (s.modWalk f (fun w =>
    { w with
      kind := if (s.fset f).chainHead = none then .default else .chain
      stepCount := 0, linkError := false, foreignMember := false, memberFailed := false, inFlight := []
      entryAdmitted := false, waiting := false, admitted := 0, passed := 0, failed := 0 })).post
    { kind := .walkStarted, subject := .feed f, origin := origin
      detail := if (s.fset f).chainHead = none then 16 + reason else reason
      value := districtMask (s.inState f .dark) }

/-- The first position of a walk of feed `f`: the chain head, or in default order the feed's first district
(R123, R124). -/
abbrev State.BeginsAt (s : State) (f : FeedId) (pos : Position) : Prop :=
  (∃ e, (s.fset f).chainHead = some e ∧ pos = .entry e) ∨
    (s.fset f).chainHead = none ∧ ∃ d, (s.districtsOf f).head? = some d ∧ pos = .district d

/-- The waiting chain table is copied once no feed is WALKING or WALK-HALTED (R139, R154). -/
def State.chainsSettled (s : State) : State :=
  if s.chainApplyWaiting = true ∧ ∀ f : FeedId, (s.feed f).state ≠ .walking ∧ (s.feed f).state ≠ .walkHalted then
    { s with
      activeImage := { s.activeImage with chains := s.pendingImage.chains }, chainApplyWaiting := false }.post
      { kind := .chainsApplied, subject := .nothing, origin := .device, detail := 0, value := 0 }
  else s

/-- Feed `f` after the end of its walk and before the grant rule runs (R139): a DARK district with a suspect count of 2
is LATCHED by FEED-FAULT, the other DARK ones join the queue in ascending order, the counter rises and the feed is UP;
LATCHED events, ascending, and WALK-ENDED are posted. -/
def State.walkOver (s : State) (f : FeedId) (origin : Origin) (how : LastEnd) : State :=
  let districts : Vector District 16 := Vector.ofFn (fun (d : DistrictId) =>
    if s.feedOfDistrict d = f ∧ (s.district d).state = .dark then
      if (s.district d).suspect < 2 then { s.district d with state := .queued }
      else
        { s.district d with
          state := .latched, lastCause := .feedFault
          stats := { (s.district d).stats with latches := (s.district d).stats.latches.oneMore } }
    else s.district d)
  let t : State := ({ s with districts := districts } : State).modFeed f (fun x =>
    { x with
      state := .up, walk := x.walk.over how
      queue := x.queue ++ (s.inState f .dark).filter (fun d => decide ((s.district d).suspect < 2))
      completed := if how = .completed then x.completed.oneMore else x.completed
      ended := if how = .completed then x.ended else x.ended.oneMore })
  (((s.inState f .dark).filter (fun d => decide (2 ≤ (s.district d).suspect))).foldl (fun u d =>
    u.postDistrict .latched d 7 (s.district d).retry) t).post
    { kind := .walkEnded, subject := .feed f, origin := origin, detail := byteOf how.code
      value := halfOf (s.walk f).figures }

/-- The end of feed `f`'s walk: the grant rule runs, and a waiting chain table is copied (R139). -/
def State.EndsWalk (s : State) (f : FeedId) (origin : Origin) (how : LastEnd) (t : State) : Prop :=
  ∀ hs rest, (s.walkOver f origin how).GrantsAre f hs rest →
    t = ((s.walkOver f origin how).withGranted f hs rest).chainsSettled

/-- Feed `f`'s walk is halted with its event: a pause becomes ENTRY-HELD (R133, R142). The event names the current
position, of a pausing walk the done entry (the model's choice, log 25). -/
def State.walkStops (s : State) (f : FeedId) (origin : Origin) (detail : Byte) (raiser : Nat) : State :=
  (s.modFeed f (fun x =>
    { x with
      state := .walkHalted
      walk := { x.walk with
        phase := if x.walk.phase = .pausing then .entryHeld else x.walk.phase
        pause := if x.walk.phase = .pausing then none else x.walk.pause } })).post
    { kind := .walkHalted, subject := .feed f, origin := origin, detail := detail
      value := halfOf ((s.walk f).position.eventCode + 256 * raiser) }

/-- The walk of feed `f` would admit the member, were there pool for it (R126). -/
abbrev State.Admissible (s : State) (f : FeedId) (m : DistrictId) : Prop :=
  s.feedOfDistrict m = f ∧ (s.district m).state = .dark ∧ (s.district m).suspect = 0

/-- Those of the listed members that the walk would admit, were there pool for them all, with their places, the first
of the list standing at `place`. A member may be listed more than once (R120): once it has been admitted it is no longer
DARK, so a later listing of it is skipped (R126). -/
def State.admits (s : State) (f : FeedId) (place : Nat) : List DistrictId → List Member
  | [] => []
  | m :: rest =>
    if s.Admissible f m then
      { district := m, place := place } :: (State.admits s f (place + 1) rest).filter (fun x => x.district ≠ m)
    else State.admits s f (place + 1) rest

/-- Those of the listed members that the walk would admit, each once, in list order. -/
def State.admissibles (s : State) (f : FeedId) (ms : List DistrictId) : List DistrictId :=
  (s.admits f 0 ms).map Member.district

/-- An admission pass of feed `f`'s walk goes over the members `pre` and stops at the head of `waits`, which it would
admit and which does not fit the pool; a foreign member among `pre` does not halt the feed (R126). -/
abbrev State.Passes (s : State) (f : FeedId) (pre waits : List DistrictId) : Prop :=
  (∀ m ∈ s.admissibles f pre, (s.district m).Lawful) ∧
    ((s.fset f).haltOnError = true → ∀ m ∈ pre, s.feedOfDistrict m = f) ∧
    (s.feed f).pool + s.costsOn f (s.admissibles f pre) ≤ (s.fset f).p ∧
    ∀ m, waits.head? = some m → s.Admissible f m ∧ m ∉ pre ∧
      (s.fset f).p < (s.feed f).pool + s.costsOn f (s.admissibles f pre) + s.costOn f m

/-- Feed `f` after such a pass: the admissible of `pre` soak, the others (a member listed again among them) are skipped,
a foreign one sets its flag, and the head of `waits` is waited for (R75, R126). -/
def State.passed (s : State) (f : FeedId) (pre waits : List DistrictId) : State :=
  ((s.admissibles f pre).foldl (fun u m => u.modDistrict m (fun r => r.soaksFrom
    (match (s.walk f).position with
      | .entry e => .walk e
      | .district _ => .walkDefault
      | .nowhere => .walkDefault) (s.costOn f m))) s).modFeed f (fun x =>
    { x with
      pool := x.pool + s.costsOn f (s.admissibles f pre)
      walk := { x.walk with
        foreignMember := x.walk.foreignMember || pre.any (fun m => decide (s.feedOfDistrict m ≠ f))
        memberPos := x.walk.memberPos + pre.length
        inFlight := x.walk.inFlight ++ s.admits f x.walk.memberPos pre
        entryAdmitted := x.walk.entryAdmitted || !(s.admissibles f pre).isEmpty
        waiting := if pre ++ waits = [] then x.walk.waiting else !waits.isEmpty
        admitted := if s.admissibles f pre = [] then x.walk.admitted
          else min 255 (x.walk.admitted + (s.admissibles f pre).length)
        admittedPlaces := x.walk.admittedPlaces ++ (s.admits f x.walk.memberPos pre).map Member.place } })

/-- WALK-ENTRY-DONE of the current entry (R129, R142). -/
def State.entryReported (s : State) (f : FeedId) : State :=
  s.post { kind := .walkEntryDone, subject := .feed f, origin := .device, detail := byteOf (s.walk f).position.eventCode
           value := halfOf (placesMask (s.walk f).admittedPlaces + 16 * placesMask (s.walk f).passedPlaces +
             256 * placesMask (s.walk f).failedPlaces) }

/-- The entry that feed `f` works is done (R129): it is reported; a halted walk holds it; otherwise its pause begins,
where it has one that is not skipped, or its link is followed at once (R130), as `link` says. -/
def State.Completes (link : State → State → Prop) (s : State) (f : FeedId) (t : State) : Prop :=
  ((s.feed f).state = .walkHalted → t = (s.entryReported f).modWalk f (fun w => { w with phase := .entryHeld })) ∧
  ((s.feed f).state ≠ .walkHalted → 0 < s.pauseAfter f →
    ((s.walk f).entryAdmitted = true ∨ s.keepPause f = true) →
    t = (s.entryReported f).modWalk f (fun w => { w with phase := .pausing, pause := some (s.pauseAfter f) })) ∧
  ((s.feed f).state ≠ .walkHalted →
    s.pauseAfter f = 0 ∨ (s.walk f).entryAdmitted = false ∧ s.keepPause f = false → link (s.entryReported f) t)

/-- The walk of feed `f` works the members from its member position on (R126, R127, R129, R135): an admission pass,
after which the entry goes on, or is done; or a pass up to a foreign member that halts the feed. -/
def State.Works (link : State → State → Prop) (s : State) (f : FeedId) (t : State) : Prop :=
  (∀ pre waits, (s.members f).drop (s.walk f).memberPos = pre ++ waits → s.Passes f pre waits →
    (((s.passed f pre waits).walk f).inFlight ≠ [] ∨ waits ≠ [] → t = s.passed f pre waits) ∧
    (((s.passed f pre waits).walk f).inFlight = [] → waits = [] → (s.passed f pre waits).Completes link f t)) ∧
  (∀ pre m rest, (s.members f).drop (s.walk f).memberPos = pre ++ m :: rest → s.Passes f pre [] →
    (s.fset f).haltOnError = true → s.feedOfDistrict m ≠ f →
    ∀ u, u = ((s.passed f pre []).modWalk f (fun w =>
      { w with foreignMember := true, waiting := false, memberPos := w.memberPos + 1 })).walkStops f .device 2 m.val →
    ((u.walk f).inFlight ≠ [] ∨ rest ≠ [] → t = u) ∧
    ((u.walk f).inFlight = [] → rest = [] → u.Completes link f t))

/-- Feed `f`'s walk visits `pos` (R125): LINK-ERROR at the 65th visit, for an empty entry and for one that names another
feed; else it goes to work on the entry. -/
def State.Visits (link : State → State → Prop) (s : State) (f : FeedId) (pos : Position) (t : State) : Prop :=
  ((∃ e, pos = .entry e ∧ (65 ≤ (s.walk f).stepCount + 1 ∨ (s.activeImage.entry e).members = [] ∨
      (s.activeImage.entry e).feed ≠ f)) →
    (s.modWalk f (fun w => { w with position := pos, stepCount := w.stepCount + 1, linkError := true })).EndsWalk f
      .device .linkError t) ∧
  ((∀ e, pos = .entry e → (s.walk f).stepCount + 1 < 65 ∧ (s.activeImage.entry e).members ≠ [] ∧
      (s.activeImage.entry e).feed = f) →
    (s.modWalk f (fun w =>
      { w with
        phase := .inEntry, position := pos, stepCount := w.stepCount + 1, memberPos := 0, inFlight := []
        entryAdmitted := false, waiting := false, admittedPlaces := [], passedPlaces := []
        failedPlaces := [] })).Works link f t)

/-- Feed `f`'s walk follows the link of its done entry (R130): END ends the walk COMPLETED, another link visits its
entry. The number bounds how many links, each followed at once, are looked at. -/
def State.Links : Nat → FeedId → State → State → Prop
  | 0, _, _, _ => True
  | n + 1, f, s, t =>
    (s.nextPosition f = none → s.EndsWalk f .device .completed t) ∧
      ∀ pos, s.nextPosition f = some pos → s.Visits (State.Links n f) f pos t

/-- The walk context after the notice of a member's soak end (R128). -/
def Walk.afterNotice (w : Walk) (d : DistrictId) (how : NoticeOutcome) : Walk :=
  { w with
    inFlight := w.inFlight.filter (fun m => m.district ≠ d)
    passed := if how = .passed then (if w.passed < 255 then w.passed + 1 else 255) else w.passed
    failed := if how = .failed then (if w.failed < 255 then w.failed + 1 else 255) else w.failed
    memberFailed := w.memberFailed || decide (how = .failed)
    passedPlaces := if how = .passed then
        w.passedPlaces ++ (w.inFlight.filter (fun m => m.district = d)).map Member.place else w.passedPlaces
    failedPlaces := if how = .failed then
        w.failedPlaces ++ (w.inFlight.filter (fun m => m.district = d)).map Member.place else w.failedPlaces }

/-- Feed `f` after the notice and, where a failure halts the feed, WALK-HALTED (R128, R132, R133). -/
def State.noticed (s : State) (f : FeedId) (d : DistrictId) (how : NoticeOutcome) : State :=
  if how = .failed ∧ (s.fset f).haltOnError = true ∧ (s.feed f).state = .walking then
    (s.modWalk f (fun w => w.afterNotice d how)).walkStops f .device 3 d.val
  else s.modWalk f (fun w => w.afterNotice d how)

/-- The notice of a walk soak reaches feed `f`'s walk (R127 to R129): a walk that is over does not use it; in an entry
it is counted, a waiting admission of a WALKING feed is retried, and an entry that is done completes. -/
def State.Notified (s : State) (f : FeedId) (d : DistrictId) (how : NoticeOutcome) (t : State) : Prop :=
  ((s.walk f).phase = .idle → t = s) ∧
  ((s.walk f).phase = .inEntry → ∀ u, u = s.noticed f d how →
    ((u.feed f).state = .walking → (u.walk f).waiting = true → (u.walk f).memberPos ≤ (u.members f).length →
      ∀ n, u.Works (State.Links n f) f t) ∧
    ((u.feed f).state ≠ .walking ∨ (u.walk f).waiting = false →
      ((u.walk f).inFlight ≠ [] ∨ (u.walk f).memberPos ≠ (u.members f).length → t = u) ∧
      ((u.walk f).inFlight = [] → (u.walk f).memberPos = (u.members f).length →
        ∀ n, u.Completes (State.Links n f) f t)))

/-- What a soak of `d` on feed `f` leaves once its district has left it (R113): cost and slot return, a walk soak's
notice reaches the walk, and the feed settles. -/
def State.SoakEnds (s : State) (f : FeedId) (d : DistrictId) (c : SoakContext) (how : NoticeOutcome) (t : State) : Prop :=
  ∃ u, (c.origin = .individual → u = s.costReturned f c) ∧
    (c.origin ≠ .individual → (s.costReturned f c).Notified f d how u) ∧ u.FeedSettles f t

/-- The hold set with the mark of port `p` (R12). -/
def HoldSet.marked (h : HoldSet) (p : Port) : HoldSet :=
  match p with
  | .a => { h with a := true }
  | .b => { h with b := true }
  | .c => { h with c := true }

/-- District `d` goes to OFF with this hold set and gives back what it held (R11): a soak ends with outcome ABORTED
(its notice comes before COMMAND-STATE, log 10), a QUEUED district leaves its feed's queue, where the grant rule runs, and
the partner of an abandoned swap loses its grace; a district that is OFF already only takes the hold set (R12). -/
def State.GoesOff (s : State) (d : DistrictId) (holds : HoldSet) (t : State) : Prop :=
  ((s.district d).state = .off → t = s.modDistrict d (fun r => { r with holds := holds })) ∧
  ((s.district d).state ≠ .off → ∀ u, u = s.modDistrict d (fun r => { r.switchedOff with holds := holds }) →
    (∀ c, (s.district d).state = .soaking → (s.district d).soak = some c →
      u.SoakEnds (s.feedOfDistrict d) d c .aborted t) ∧
    ((s.district d).state = .queued → ∀ w, w = u.modFeed (s.feedOfDistrict d) (fun x =>
        { x with queue := x.queue.filter (fun e => e ≠ d) }) →
      ∀ hs rest, w.GrantsAre (s.feedOfDistrict d) hs rest → t = w.withGranted (s.feedOfDistrict d) hs rest) ∧
    ((s.district d).state = .swapping ∨ (s.district d).state = .swapCheck → t = u.partnerGraceOver d) ∧
    ((s.district d).state = .dark ∨ (s.district d).state = .live ∨ (s.district d).state = .tripped ∨
      (s.district d).state = .latched → t = u))

/-- These districts are taken to OFF one after the other, by DISABLE or HOLD from port `p` with this command code, a
HOLD adding the port's mark (`marks`): each goes to OFF, has its COMMAND-STATE, and last has a waiting copy of its
settings made (R9, R11, R12, R150; this order is the model's choice, log 10). -/
def State.TakenOff (p : Port) (code : Byte) (marks : Bool) : List DistrictId → State → State → Prop
  | [], s, t => t = s
  | d :: rest, s, t =>
    ∀ holds, holds = (if marks = true then (s.district d).holds.marked p else (s.district d).holds) →
      ∃ u, s.GoesOff d holds u ∧
        ∃ v, (u.post
            { kind := .commandState, subject := .district d, origin := .port p, detail := code
              value := halfOf (256 * flagsNumber [holds.a, holds.b, holds.c]) }).DistrictSettles d v ∧
          State.TakenOff p code marks rest v t

/-- Every district record is lawful. -/
abbrev State.RecordsLawful (s : State) : Prop := ∀ d : DistrictId, (s.district d).Lawful

/-! ## Feeds and walks (R97, R98, R122, R141) -/

/-- The walk context of a feed in this state (R122). -/
abbrev Walk.Lawful (w : Walk) (st : FState) : Prop :=
  (w.phase = .idle ↔ st = .down ∨ st = .up) ∧ (w.kind = .none ↔ w.phase = .idle) ∧
    (w.phase = .pausing → st = .walking) ∧ (w.phase = .entryHeld → st = .walkHalted) ∧
    (w.pause.isSome = true → w.phase = .pausing) ∧ w.admitted ≤ 255 ∧ w.passed ≤ 255 ∧ w.failed ≤ 255

/-- A feed record by itself: state, levels, debounce timer, walk context and walk counters (R97, R98, R122, R141). -/
abbrev Feed.Lawful (x : Feed) : Prop :=
  (x.state = .down ↔ x.accepted = .faulted) ∧ (x.raw = .faulted → x.accepted = .faulted) ∧
    (x.debounce.isSome = true ↔ x.accepted = .faulted ∧ x.raw = .healthy) ∧ x.walk.Lawful x.state ∧
    x.completed.count ≤ 255 ∧ x.ended.count ≤ 255 ∧ x.abortedWalks.count ≤ 255

/-- Every feed record is lawful. -/
abbrev State.FeedsLawful (s : State) : Prop := ∀ f : FeedId, (s.feed f).Lawful

/-- While a feed is DOWN none of its districts is energised, swapping, tripped or queued, and while it is UP none is
DARK (R105). -/
abbrev State.DarkLaw (s : State) : Prop :=
  ∀ d : DistrictId,
    ((s.feed (s.feedOfDistrict d)).state = .down →
      (s.district d).state = .off ∨ (s.district d).state = .dark ∨ (s.district d).state = .latched) ∧
    ((s.feed (s.feedOfDistrict d)).state = .up → (s.district d).state ≠ .dark)

/-- A district is in a wait queue exactly when it is QUEUED, and then once, in its feed's queue (R108). -/
abbrev State.QueueLaw (s : State) : Prop :=
  ∀ f : FeedId, (s.feed f).queue.Nodup ∧
    ∀ d : DistrictId, d ∈ (s.feed f).queue ↔ (s.district d).state = .queued ∧ s.feedOfDistrict d = f

/-- The cost a district holds in its feed's pool, 0 where it is not SOAKING (R56). -/
def District.heldCost (r : District) : Nat := (r.soak.map SoakContext.cost).getD 0

/-- The district is in a soak of origin INDIVIDUAL. -/
def District.soaksAlone (r : District) : Bool := r.soak.any (fun c => decide (c.origin = .individual))

/-- A soak context is present exactly while SOAKING (R58); for each feed the pool in use is the sum of the granted
costs of its SOAKING districts, at most P, and the slots in use are the number of its INDIVIDUAL soaks, at most S
(R109, R110). -/
abbrev State.PoolLaw (s : State) : Prop :=
  (∀ d : DistrictId, (s.district d).soak.isSome = true ↔ (s.district d).state = .soaking) ∧
    ∀ f : FeedId,
      (s.feed f).pool = ((s.inState f .soaking).map (fun d => (s.district d).heldCost)).sum ∧
        (s.feed f).pool ≤ (s.fset f).p ∧
        (s.feed f).slots = ((s.inState f .soaking).filter (fun d => (s.district d).soaksAlone)).length ∧
        (s.feed f).slots ≤ (s.fset f).s

/-- A deferred copy waits only while its reason stands: a district's while it is SOAKING, SWAPPING or SWAP-CHECK, a
feed's while a district of it is SOAKING, the chain table's while a feed is WALKING or WALK-HALTED
(R115, R150, R154). -/
abbrev State.WaitingLaw (s : State) : Prop :=
  (∀ d : DistrictId, (s.district d).applyDeferred = true →
    (s.district d).state = .soaking ∨ (s.district d).state = .swapping ∨ (s.district d).state = .swapCheck) ∧
  (∀ f : FeedId, (s.feed f).applyDeferred = true →
    ∃ d : DistrictId, s.feedOfDistrict d = f ∧ (s.district d).state = .soaking) ∧
  (s.chainApplyWaiting = true → ∃ f : FeedId, (s.feed f).state = .walking ∨ (s.feed f).state = .walkHalted)

/-! ## Settings (R145 to R147, R149) -/

/-- A district set with every field in its range (R145). -/
abbrev DistrictSet.InRange (ds : DistrictSet) : Prop :=
  ds.h ≤ 1021 ∧ 1 ≤ ds.t ∧ ds.t ≤ 1022 ∧ 2 ≤ ds.l ∧ ds.l ≤ 1023 ∧ ds.q ≤ 65535 ∧ 8 ≤ ds.w ∧ ds.w ≤ 400 ∧
    1 ≤ ds.r ∧ ds.r ≤ 15 ∧ 10 ≤ ds.coolDown ∧ ds.coolDown ≤ 5000 ∧ 100 ≤ ds.settle ∧ ds.settle ≤ 60000 ∧
    1 ≤ ds.occLevel ∧ ds.occLevel ≤ 1023 ∧ 1 ≤ ds.deadTime ∧ ds.deadTime ≤ 20 ∧ 8 ≤ ds.checkWindow ∧
    ds.checkWindow ≤ 200

/-- H below T below L, as every corrected set has it (R149). -/
abbrev DistrictSet.Ordered (ds : DistrictSet) : Prop := ds.h < ds.t ∧ ds.t < ds.l

/-- A feed set with every field in its range (R146). -/
abbrev FeedSet.InRange (fs : FeedSet) : Prop :=
  1 ≤ fs.p ∧ fs.p ≤ 4092 ∧ 1 ≤ fs.s ∧ fs.s ≤ 4 ∧ 1 ≤ fs.debounce ∧ fs.debounce ≤ 100

/-- A chain entry with every field in its range (R120, R147). -/
abbrev ChainEntry.InRange (e : ChainEntry) : Prop := e.members.length ≤ 4 ∧ e.pause ≤ 10000

/-- An image with every field in its range. -/
abbrev Image.InRange (i : Image) : Prop :=
  (∀ d : DistrictId, (i.district d).InRange) ∧ (∀ f : FeedId, (i.feed f).InRange) ∧
    ∀ e : EntryId, (i.entry e).InRange

/-- An image fit to work from: in range, and every district set ordered. -/
abbrev Image.Workable (i : Image) : Prop := i.InRange ∧ ∀ d : DistrictId, (i.district d).Ordered

/-- The pending image is in range; the active image, a stored image with its check word and a capture being written
are fit to work from (R144 to R149, R170 to R172). -/
abbrev State.SettingsLawful (s : State) : Prop :=
  s.pendingImage.InRange ∧ s.activeImage.Workable ∧ (s.nv.check.isSome = true → s.nv.image.Workable) ∧
    (s.nv.writing.all (fun w => decide w.capture.Workable) = true)

/-! ## Ports and ring (R156, R158, R166, R168) -/

/-- A receiver that is gathering a frame. -/
def Reception.inFrame : Reception → Bool
  | .frame _ => true
  | .hunt => false
  | .busy => false

/-- A port's reception: the inter-byte timer runs exactly in FRAME, and BUSY is the time of a request passed on or
of a response being sent, never of both (R158, R159). -/
abbrev PortRecord.ReceptionLaw (q : PortRecord) : Prop :=
  (q.interByte.isSome = true ↔ q.reception.inFrame = true) ∧
    (q.reception = .busy ↔ q.request.isSome = true ∨ q.response.isSome = true) ∧
    ¬(q.request.isSome = true ∧ q.response.isSome = true)

/-- A port beside the ring's write position: the cursor stands the unread count behind it, the counts are in range,
and the linger timer runs only over unread entries; a DISABLED port has no unread entry and takes no frame
(R156, R158, R163, R166, R168). -/
abbrev PortRecord.Lawful (q : PortRecord) (write : RingPos) : Prop :=
  q.unread ≤ 128 ∧ q.badFrames ≤ 255 ∧ q.lost ≤ 255 ∧ q.ReceptionLaw ∧
    (q.lingerTimer.isSome = true → 0 < q.unread) ∧
    (q.role ≠ .disabled → (q.cursor.val + q.unread) % 128 = write.val) ∧
    (q.role = .disabled → q.unread = 0 ∧ q.reception = .hunt)

/-- Every port is lawful beside the ring. -/
abbrev State.PortsLawful (s : State) : Prop :=
  (s.port .a).Lawful s.ring.write ∧ (s.port .b).Lawful s.ring.write ∧ (s.port .c).Lawful s.ring.write

end Sys2Proof.Machine
end

