-- ==== Sys2Proof/Certificates/Slice0/Obligations.lean ====
section
/-! DEFINITION. Certificates/Slice0/Obligations.lean: the statements for the provers. -/

open Sys2Proof Sys2Proof.Machine

/-! ## The queue, the step and what the part does by itself -/

/-- A step takes the command at the front of the queue and is `exec` of it on the queue's rest (the model's queue,
log 4). -/
def Obligations.StepTakesTheFrontCommand : Prop :=
  ∀ (c : Instr) (rest : List Instr) (s : State), s.pending = c :: rest → step s = exec c { s with pending := rest }

/-- On an empty queue a part in reset does nothing. A running part takes a command that is due, where there is one: the
expiry of a timer of a district, feed or port that stands at 0 (R20, R49, R83, R103, R130, R158, R168), a request that
waits at its port, or the end of a store write whose 60 ms are up (with the read-back of log 6). Where nothing is due,
one millisecond passes at the Timebase and at every running timer. All this is the model's choice (log 2), as is which
of several due commands comes first. -/
def Obligations.EmptyQueueTakesWhatIsDueOrAMillisecond : Prop :=
  ∀ s : State, s.pending = [] →
    (s.inReset = true → step s = .next s) ∧
    (s.inReset = false → (∃ c, s.IsDue c) → ∃ c, s.dueCommand = some c ∧ s.IsDue c ∧ step s = exec c s) ∧
    (s.inReset = false → (∀ c, ¬s.IsDue c) →
      ∃ t, step s = .next t ∧ t.now = s.now + 1 ∧
        (∀ d, t.district d =
          { s.district d with
            coolDown := (s.district d).coolDown.map (fun n => n - 1)
            settle := (s.district d).settle.map (fun n => n - 1)
            deadTime := (s.district d).deadTime.map (fun n => n - 1) }) ∧
        (∀ f, t.feed f =
          { s.feed f with
            debounce := (s.feed f).debounce.map (fun n => n - 1)
            walk := { (s.feed f).walk with pause := (s.feed f).walk.pause.map (fun n => n - 1) } }) ∧
        (∀ p, t.port p =
          { s.port p with
            interByte := (s.port p).interByte.map (fun n => n - 1)
            lingerTimer := (s.port p).lingerTimer.map (fun n => n - 1) }) ∧
        t.activeImage = s.activeImage ∧ t.pendingImage = s.pendingImage ∧ t.ring = s.ring ∧
        t.snapshot = s.snapshot ∧ t.pending = [] ∧ t.inReset = false ∧
        t.nv = { s.nv with writing := s.nv.writing.map (fun w => { w with remaining := w.remaining - 1 }) })

/-- Every row of the table that is a request carries exactly the parameter count that R161 fixes for its command. -/
def Obligations.RequestsHaveTheirParameterCount : Prop :=
  ∀ i : Instr, Laws.RequestLength.Statement i

/-- In reset only the two starts and the reset itself have any effect (R172; the records wait for the start,
log 8). -/
def Obligations.InResetOnlyAStartActs : Prop :=
  ∀ (i : Instr) (s : State), s.inReset = true → (∀ pins, i ≠ .powerOn pins) → (∀ pins, i ≠ .resetPin pins) →
    i ≠ .resetAsserted → exec i s = .next s

/-! ## Ports: bytes, frames, roles and responses (chapter 08) -/

/-- DECODE AND ENCODE AGREE on the line (R157 to R161): a request's parameter bytes are those of R161, and its frame
is 5Ch, LEN, the code, the parameters and CHECK, from LEN on summing to a multiple of 256; when a receiving port in
HUNT takes, byte by byte, the frame of any request its role permits, it passes on exactly that request and is BUSY,
and nothing else has changed. That the request then waits in its port, until the queue is empty, is the model's choice
(log 5). -/
def Obligations.AFrameOnTheLinePassesOnItsRequest : Prop :=
  (∀ (c : Command) (ps : List Byte), ps.length ≤ 32 →
    ∃ len check : Byte, requestFrame c ps = [0x5C, len, c.code] ++ ps ++ [check] ∧ len.toNat = ps.length + 1 ∧
      byteSum ([len, c.code] ++ ps ++ [check]) = 0) ∧
  (∀ (p : Port) (x y z : Byte) (m : Half) (e : EntryBytes),
    encodeRequest (.readDistrict p x) = some (p, .readDistrict, [x]) ∧
    encodeRequest (.readDistrictStats p x) = some (p, .readDistrictStats, [x]) ∧
    encodeRequest (.readFeed p x) = some (p, .readFeed, [x]) ∧
    encodeRequest (.readQueue p x) = some (p, .readQueue, [x]) ∧
    encodeRequest (.readSettings p x y z) = some (p, .readSettings, [x, y, z]) ∧
    encodeRequest (.readChainEntry p x y) = some (p, .readChainEntry, [x, y]) ∧
    encodeRequest (.readSnapshot p x) = some (p, .readSnapshot, [x]) ∧
    encodeRequest (.readEvents p x) = some (p, .readEvents, [x]) ∧
    encodeRequest (.readPortStatus p x) = some (p, .readPortStatus, [x]) ∧
    encodeRequest (.setAttention p x y) = some (p, .setAttention, [x, y]) ∧
    encodeRequest (.enable p m) = some (p, .enable, halfBytes m) ∧
    encodeRequest (.disable p m) = some (p, .disable, halfBytes m) ∧
    encodeRequest (.hold p m) = some (p, .hold, halfBytes m) ∧
    encodeRequest (.release p m) = some (p, .release, halfBytes m) ∧
    encodeRequest (.clear p m) = some (p, .clear, halfBytes m) ∧
    encodeRequest (.markSeen p m) = some (p, .markSeen, halfBytes m) ∧
    encodeRequest (.snapshot p) = some (p, .snapshot, []) ∧
    encodeRequest (.snapshotKeep p) = some (p, .snapshotKeep, []) ∧
    encodeRequest (.setDistrict p x y m) = some (p, .setDistrict, [x, y] ++ halfBytes m) ∧
    encodeRequest (.setFeed p x y m) = some (p, .setFeed, [x, y] ++ halfBytes m) ∧
    encodeRequest (.setChainEntry p x e) = some (p, .setChainEntry,
      [x, e.feed, e.count, e.member0, e.member1, e.member2, e.member3] ++ halfBytes e.pause ++
        [e.keepPause, e.link]) ∧
    encodeRequest (.apply p m x) = some (p, .apply, halfBytes m ++ [x]) ∧
    encodeRequest (.applyChains p) = some (p, .applyChains, []) ∧
    encodeRequest (.save p) = some (p, .save, []) ∧
    encodeRequest (.cycleFeed p x) = some (p, .cycleFeed, [x]) ∧
    encodeRequest (.haltWalk p x) = some (p, .haltWalk, [x]) ∧
    encodeRequest (.resumeWalk p x) = some (p, .resumeWalk, [x]) ∧
    encodeRequest (.endWalk p x) = some (p, .endWalk, [x]) ∧
    encodeRequest (.clearWalkErrors p x) = some (p, .clearWalkErrors, [x]) ∧
    encodeRequest (.releaseForeign p m x) = some (p, .releaseForeign, halfBytes m ++ [x]) ∧
    encodeRequest (.resetStats p m) = some (p, .resetStats, halfBytes m)) ∧
  ∀ (i : Instr) (p : Port) (c : Command) (ps : List Byte) (s : State),
    encodeRequest i = some (p, c, ps) → s.MayRequest p c → (s.port p).reception = .hunt →
      runAll ((requestFrame c ps).map (fun b => .rxByte p b true)) s =
        some (s.modPort p (fun q =>
          { q with reception := .busy, interByte := none, request := some i, response := none }))

/-- RX_BYTE at a running part. At a DISABLED port every byte is ignored: nothing is counted and nothing changes (R156).
At an enabled port it is taken by reception state (R158): SYNC begins a frame in HUNT and any other byte is
discarded; in FRAME a missing stop bit or a LEN of 0 or above 33 is a reception fault, and a byte before CHECK is
gathered and restarts the 5 ms timer; in BUSY the reception is noted as disturbed. -/
def Obligations.AByteIsTakenByReceptionState : Prop :=
  ∀ (p : Port) (b : Byte) (stopBit : Bool) (s : State), s.inReset = false →
    ((s.port p).role = .disabled → exec (.rxByte p b stopBit) s = .next s) ∧
    ((s.port p).role ≠ .disabled →
      ((s.port p).reception = .hunt → exec (.rxByte p b stopBit) s =
        .next (if stopBit = true ∧ b = 0x5C then
          s.modPort p (fun q => { q with reception := .frame [], interByte := some 5 }) else s)) ∧
      (∀ got, (s.port p).reception = .frame got →
        (stopBit = false ∨ got = [] ∧ (b.toNat = 0 ∨ 33 < b.toNat)) → exec (.rxByte p b stopBit) s =
          .next (s.modPort p (fun q =>
            { q with
              reception := .hunt, interByte := none, disturbed := false
              badFrames := if q.badFrames < 255 then q.badFrames + 1 else 255 }))) ∧
      ((s.port p).reception = .frame [] → stopBit = true → 1 ≤ b.toNat → b.toNat ≤ 33 →
        exec (.rxByte p b stopBit) s =
          .next (s.modPort p (fun q => { q with reception := .frame [b], interByte := some 5 }))) ∧
      (∀ len rest, (s.port p).reception = .frame (len :: rest) → stopBit = true → rest.length < len.toNat →
        exec (.rxByte p b stopBit) s =
          .next (s.modPort p (fun q =>
            { q with reception := .frame (len :: rest ++ [b]), interByte := some 5 }))) ∧
      ((s.port p).reception = .busy → exec (.rxByte p b stopBit) s =
        .next (s.modPort p (fun q => { q with disturbed := true }))))

/-- The codes and parameter counts of the 31 commands are those of R161's table, and any other code is no command. The
CHECK byte of a frame (R157 to R159): a wrong sum discards the frame; a good frame is answered BAD-COMMAND,
REFUSED-ROLE or BAD-LENGTH by the first check that fails, in this order, and otherwise its request is passed on. That
it then waits in its port and reaches its owner in a later step is the model's choice (log 5). -/
def Obligations.ACompleteFrameIsCheckedInOrder : Prop :=
  (∀ (b : Byte) (c : Command) (n : Nat), (Command.ofCode b = some c ↔ c.code = b) ∧
    (c.code = b ∧ c.paramBytes = n ↔ (b, c, n) ∈ ([
      (0x10, .readDistrict, 1), (0x11, .readDistrictStats, 1), (0x12, .readFeed, 1), (0x13, .readQueue, 1),
      (0x14, .readSettings, 3), (0x15, .readChainEntry, 2), (0x16, .readSnapshot, 1), (0x17, .readEvents, 1),
      (0x18, .readPortStatus, 1), (0x19, .setAttention, 2), (0x20, .enable, 2), (0x21, .disable, 2),
      (0x22, .hold, 2), (0x23, .release, 2), (0x24, .clear, 2), (0x25, .markSeen, 2), (0x26, .snapshot, 0),
      (0x27, .snapshotKeep, 0), (0x30, .setDistrict, 4), (0x31, .setFeed, 4), (0x32, .setChainEntry, 11),
      (0x33, .apply, 3), (0x34, .applyChains, 0), (0x35, .save, 0), (0x36, .cycleFeed, 1), (0x37, .haltWalk, 1),
      (0x38, .resumeWalk, 1), (0x39, .endWalk, 1), (0x3A, .clearWalkErrors, 1), (0x3B, .releaseForeign, 3),
      (0x3C, .resetStats, 2)] : List (Byte × Command × Nat)))) ∧
  ∀ (p : Port) (len cmd check : Byte) (ps : List Byte) (s : State),
    s.inReset = false → (s.port p).role ≠ .disabled → (s.port p).reception = .frame (len :: cmd :: ps) →
    ps.length + 1 = len.toNat →
    (byteSum (len :: cmd :: ps ++ [check]) ≠ 0 → exec (.rxByte p check true) s =
      .next (s.modPort p (fun q =>
        { q with
          reception := .hunt, interByte := none, disturbed := false
          badFrames := if q.badFrames < 255 then q.badFrames + 1 else 255 }))) ∧
    (byteSum (len :: cmd :: ps ++ [check]) = 0 →
      (Command.ofCode cmd = none → exec (.rxByte p check true) s =
        .next (s.respond p cmd { status := .badCommand, data := [] })) ∧
      (∀ c, Command.ofCode cmd = some c → (s.port p).role.permits c = false → exec (.rxByte p check true) s =
        .next (s.respond p cmd { status := .refusedRole, data := [] })) ∧
      (∀ c, Command.ofCode cmd = some c → (s.port p).role.permits c = true → ps.length ≠ c.paramBytes →
        exec (.rxByte p check true) s = .next (s.respond p cmd { status := .badLength, data := [] })) ∧
      (∀ c, Command.ofCode cmd = some c → (s.port p).role.permits c = true → ps.length = c.paramBytes →
        ∃ i, encodeRequest i = some (p, c, ps) ∧ exec (.rxByte p check true) s =
          .next (s.modPort p (fun q =>
            { q with reception := .busy, interByte := none, request := some i, response := none }))))

/-- INTER_BYTE_TIMEOUT, RESPONSE_END and LINGER_EXPIRY at a running part (R158, R168): a frame that stalls for 5 ms is
discarded and counted; the end of a response returns the port to HUNT and counts a disturbed BUSY period once; a
linger that has run out sets its flag and becomes idle; where the timer is idle, or has been started again (by the next
byte, by READ-EVENTS), its expiry does not happen (log 3). That RESPONSE_END at a port without a response leaves the
state as it is, is the model's choice (log 19). -/
def Obligations.PortTimersAndTheEndOfAResponse : Prop :=
  ∀ (p : Port) (s : State), s.inReset = false →
    ((s.port p).interByte = some 0 → exec (.interByteTimeout p) s =
      .next (s.modPort p (fun q =>
        { q with
          reception := .hunt, interByte := none, disturbed := false
          badFrames := if q.badFrames < 255 then q.badFrames + 1 else 255 }))) ∧
    ((s.port p).response.isSome = true → exec (.responseEnd p) s =
      .next (s.modPort p (fun q =>
        { q with
          reception := .hunt, response := none, disturbed := false
          badFrames := if q.disturbed = false then q.badFrames
            else if q.badFrames < 255 then q.badFrames + 1 else 255 }))) ∧
    ((s.port p).lingerTimer = some 0 → exec (.lingerExpiry p) s =
      .next (s.modPort p (fun q => { q with lingerTimer := none, lingerExpired := true }))) ∧
    ((s.port p).interByte ≠ some 0 → exec (.interByteTimeout p) s = .next s) ∧
    ((s.port p).response = none → exec (.responseEnd p) s = .next s) ∧
    ((s.port p).lingerTimer ≠ some 0 → exec (.lingerExpiry p) s = .next s)

/-- What each role permits (R156, R161): WATCH exactly the ten commands listed, OPERATE these and eight more, FULL
these and thirteen more, DISABLED none. A request at a running part, by its port (R156, R158, R159): at a DISABLED
port it does nothing; at a port that is BUSY with another exchange it is discarded and only noted as a disturbance; a
request that the port has passed on runs as at the port in HUNT, where this file's other statements say what it does;
and where the port's role does not permit it, it is answered REFUSED-ROLE without data and changes nothing but that
port (rows and frames: log 5). -/
def Obligations.ARoleLimitsWhatAPortMayDo : Prop :=
  (∀ c : Command, Role.disabled.permits c = false ∧
    (Role.watch.permits c = true ↔
      c ∈ [.readDistrict, .readDistrictStats, .readFeed, .readQueue, .readSettings, .readChainEntry, .readSnapshot,
        .readEvents, .readPortStatus, .setAttention]) ∧
    (Role.operate.permits c = true ↔ Role.watch.permits c = true ∨
      c ∈ [.enable, .disable, .hold, .release, .clear, .markSeen, .snapshot, .snapshotKeep]) ∧
    (Role.full.permits c = true ↔ Role.operate.permits c = true ∨
      c ∈ [.setDistrict, .setFeed, .setChainEntry, .apply, .applyChains, .save, .cycleFeed, .haltWalk, .resumeWalk,
        .endWalk, .clearWalkErrors, .releaseForeign, .resetStats])) ∧
  ∀ (i : Instr) (p : Port) (c : Command) (ps : List Byte) (s : State),
    encodeRequest i = some (p, c, ps) → s.inReset = false →
      ((s.port p).role = .disabled → exec i s = .next s) ∧
      ((s.port p).role ≠ .disabled → (s.port p).reception = .busy → (s.port p).request ≠ some i →
        exec i s = .next (s.modPort p (fun q => { q with disturbed := true }))) ∧
      ((s.port p).role ≠ .disabled → (s.port p).reception = .busy → (s.port p).request = some i →
        exec i s = exec i (s.modPort p (fun q => { q with reception := .hunt, request := none }))) ∧
      ((s.port p).role ≠ .disabled → (s.port p).role.permits c = false → (s.port p).reception ≠ .busy →
        exec i s = .next (s.respond p c.code { status := .refusedRole, data := [] }))

/-- The nine STATUS codes are those of R160. Quantities of several bytes are sent low byte first (R157), and the sum
of a frame is the sum of its byte values, modulo 256. A port with a response is BUSY with it, and nothing beside that
port's record changes. Every response frame begins with C5h, counts from CMD to its last data byte in LEN, echoes the
command, carries STATUS and data, and sums to a multiple of 256 from LEN to CHECK (R157). -/
def Obligations.AResponseFrameSumsToZero : Prop :=
  ([Status.ok, .okClamped, .partly, .unchanged, .refusedRole, .refusedBusy, .badTarget, .badCommand,
      .badLength].map Status.code = [0x00, 0x01, 0x02, 0x03, 0x10, 0x11, 0x20, 0x21, 0x22]) ∧
  (∀ n : Nat, (byteOf n).toNat = n % 256 ∧ (halfOf n).toNat = n % 65536 ∧
    twoBytes n = [byteOf n, byteOf (n / 256)] ∧ threeBytes n = [byteOf n, byteOf (n / 256), byteOf (n / 65536)] ∧
    fourBytes n = [byteOf n, byteOf (n / 256), byteOf (n / 65536), byteOf (n / 16777216)] ∧
    ∀ h : Half, halfBytes h = [byteOf h.toNat, byteOf (h.toNat / 256)]) ∧
  (∀ bs : List Byte, (byteSum bs).toNat = (bs.map BitVec.toNat).sum % 256) ∧
  (∀ (s : State) (p : Port) (cmd : Byte) (reply : Reply) (g : PortRecord → PortRecord),
    s.respond p cmd reply = s.modPort p (fun q =>
      { q with
        reception := .busy, interByte := none, request := none
        response := some { cmd := cmd, status := reply.status, data := reply.data } }) ∧
    (∀ r, (s.modPort p g).port r = if r = p then g (s.port p) else s.port r) ∧
    { s.modPort p g with ports := s.ports } = s) ∧
  ∀ x : Response, x.data.length ≤ 64 →
    ∃ len check : Byte, x.frame = [0xC5, len, x.cmd, x.status.code] ++ x.data ++ [check] ∧
      len.toNat = x.data.length + 2 ∧ byteSum ([len, x.cmd, x.status.code] ++ x.data ++ [check]) = 0

/-- The outputs. In reset SW and POL are low and TX is released; otherwise SW is high at a CLOSED switch, POL at a
SWAPPED polarity, and TX carries the frame of the port's response, where there is one (R2, R3, R157, R172). The
attention line is asserted while the unread count is at or above the trigger, or the linger has expired with
something unread, and never at a DISABLED port or in reset (R168, R172). -/
def Obligations.AttentionFollowsTriggerAndLinger : Prop :=
  (∀ (s : State) (d : DistrictId),
    (s.sw d = true ↔ s.inReset = false ∧ (s.district d).switch = .closed) ∧
    (s.pol d = true ↔ s.inReset = false ∧ (s.district d).polarity = .swapped)) ∧
  (∀ (s : State) (p : Port),
    s.tx p = if s.inReset = true then none else ((s.port p).response).map Response.frame) ∧
  ∀ (s : State) (p : Port),
    s.atn p = true ↔
      s.inReset = false ∧ (s.port p).role ≠ .disabled ∧
        (([1, 32, 64, 96, 112][(s.port p).trigger.val]'((s.port p).trigger.isLt)) ≤ (s.port p).unread ∨
          (s.port p).lingerExpired = true ∧ 0 < (s.port p).unread)

/-! ## Resets and the store (chapter 10) -/

/-- POWER_ON and RESET_PIN: from every state the part starts as R172 says, loading the stored image where the check
matches and the defaults where the check word is erased or a write was cut off. The role of a port is that of its
straps (R156); the reset values of every record and the defaults of every setting are listed. 0 in the bits of
POWER-UP that R165 leaves unnamed is the model's choice (log 27). -/
def Obligations.AStartResetsEveryRecord : Prop :=
  (([0, 1, 2, 3] : List (BitVec 2)).map roleOfStraps = [.disabled, .watch, .operate, .full] ∧
    [Role.disabled, .watch, .operate, .full].map roleCode = [0, 1, 2, 3] ∧
    ∀ pins : StartPins, allFeeds = [0, 1, 2, 3] ∧ allFeeds.map (faultInput pins) =
      [pins.flt0, pins.flt1, pins.flt2, pins.flt3]) ∧
  (∀ st : DState, resetDistrict st =
    { state := st, switch := .opened, polarity := .normal, holds := { a := false, b := false, c := false }
      mode := .lenient, retry := 0, suspect := 0, lastCause := .none, window := [0, 0, 0, 0, 0, 0, 0, 0], sum := 0
      fill := 0, occupancy := .unknown, seen := false, soak := none, lastSoak := none, deferral := none
      grace := false, preSwap := none, checkCount := none, coolDown := none, settle := none, deadTime := none
      applyDeferred := false
      stats :=
        { trips := { count := 0, rolled := false }, excuses := { count := 0, rolled := false }
          recoveries := { count := 0, rolled := false }, soakFails := { count := 0, rolled := false }
          latches := { count := 0, rolled := false }, swaps := { count := 0, rolled := false }
          swapFails := { count := 0, rolled := false } }
      acct := { charge := 0, count := 0, peak := 0, overflow := false }
      snap := { charge := 0, count := 0, peak := 0, overflow := false, average := 0 } }) ∧
  (∀ (raw : Level) (ms : Nat), resetFeed raw ms =
    { state := .down, raw := raw, accepted := .faulted, debounce := if raw = .healthy then some ms else none
      fell := false, rose := false, implicated := [], pool := 0, slots := 0, queue := [], applyDeferred := false
      walk :=
        { phase := .idle, kind := .none, position := .nowhere, memberPos := 0, inFlight := []
          entryAdmitted := false, waiting := false, stepCount := 0, pause := none, linkError := false
          foreignMember := false, memberFailed := false, admitted := 0, passed := 0, failed := 0, lastEnd := .none
          admittedPlaces := [], passedPlaces := [], failedPlaces := [] }
      completed := { count := 0, rolled := false }, ended := { count := 0, rolled := false }
      abortedWalks := { count := 0, rolled := false } }) ∧
  (∀ role : Role, resetPort role =
    { role := role, reception := .hunt, interByte := none, disturbed := false, badFrames := 0, lost := 0
      overrun := false, cursor := 0, unread := 0, trigger := 0, linger := 0, lingerTimer := none
      lingerExpired := false, request := none, response := none }) ∧
  (resetHeader.kind = .none ∧ resetHeader.stamp = 0 ∧ resetHeader.fell.toList = [false, false, false, false] ∧
    resetHeader.rose.toList = [false, false, false, false] ∧
    zeroEntry = { kind := 0, subject := 0, origin := 0, detail := 0, value := 0, stamp := 0 }) ∧
  ((∀ d : DistrictId, defaultImage.district d =
      { feed := Fin.ofNat 4 (d.val / 4), kind := .plain, h := 20, t := 250, l := 500, q := 2000, w := 40, r := 3
        coolDown := 1000, settle := 10000, occLevel := 3, occReports := false, partner := none, deadTime := 5
        checkWindow := 40, swapOnSlow := false }) ∧
    (∀ f : FeedId, defaultImage.feed f =
      { p := 800, s := 1, debounce := 20, haltOnError := false, chainHead := none }) ∧
    (∀ e : EntryId, defaultImage.entry e =
      { feed := 0, members := [], pause := 0, keepPause := false, link := none })) ∧
  ∀ (pins : StartPins) (s : State),
    (∃ t, exec (.powerOn pins) s = .next t ∧ StartedFrom false pins s t) ∧
    (∃ t, exec (.resetPin pins) s = .next t ∧ StartedFrom true pins s t)

/-- RESET_ASSERTED: every SW and POL output is low, every TX and ATN line is released, requests and responses are
lost, a store write is cut off with its check word erased, and records, settings and ring are kept for the start
(R159, R171, R172; the keeping is the model's, log 8). -/
def Obligations.ResetDrivesEveryOutputLow : Prop :=
  ∀ s : State, ∃ t, exec .resetAsserted s = .next t ∧ t.inReset = true ∧
    (∀ d, t.sw d = false ∧ t.pol d = false) ∧ (∀ p, t.tx p = none ∧ t.atn p = false) ∧
    (∀ p, (t.port p).reception = .hunt ∧ (t.port p).request = none ∧ (t.port p).response = none) ∧
    t.districts = s.districts ∧ t.feeds = s.feeds ∧ t.activeImage = s.activeImage ∧
    t.pendingImage = s.pendingImage ∧ t.ring = s.ring ∧ t.snapshot = s.snapshot ∧
    (s.nv.writing = none → t.nv = s.nv) ∧
    (s.nv.writing.isSome = true → t.nv.check = none ∧ t.nv.writing = none)

/-- SAVE at a FULL port: an idle store captures the active image, erases its check word and is writing, the image it
holds being left until the write's end (log 7); a writing store refuses with REFUSED-BUSY and no effect (R171). -/
def Obligations.SaveStartsAWriteOrIsRefused : Prop :=
  ∀ (p : Port) (s : State), s.MayRequest p .save →
    (s.nv.writing = none → exec (.save p) s =
      .next ({ s with nv :=
          { image := s.nv.image, check := none
            writing := some { origin := p, capture := s.activeImage, check := s.activeImage.check, remaining := 60 }
            writes := s.nv.writes + 1 } }.respond p 0x35 { status := .ok, data := [] })) ∧
    (s.nv.writing.isSome = true → exec (.save p) s =
      .next (s.respond p 0x35 { status := .refusedBusy, data := [] }))

/-- STORE_WRITE_END: a matching read-back leaves the store valid with the captured image and posts STORE-SAVED; any
other leaves it erased, with an image that is not known (the free value of log 7), and posts STORE-FAILED; both carry
the port that sent SAVE and the captured check (R171). Without a write it does nothing. -/
def Obligations.AStoreWriteEndsValidOrErased : Prop :=
  ∀ (s : State), s.inReset = false →
    (∀ w, s.nv.writing = some w →
      exec (.storeWriteEnd true) s =
        .next ({ s with nv := { image := w.capture, check := some w.check, writing := none,
                                writes := s.nv.writes } }.post
          { kind := .storeSaved, subject := .nothing, origin := .port w.origin, detail := 0, value := w.check }) ∧
      ∃ image : Image, exec (.storeWriteEnd false) s =
        .next ({ s with nv := { image := image, check := none, writing := none, writes := s.nv.writes } }.post
          { kind := .storeFailed, subject := .nothing, origin := .port w.origin, detail := 0, value := w.check })) ∧
    (s.nv.writing = none → ∀ matched, exec (.storeWriteEnd matched) s = .next s)

/-- The settings that SAVE captured are the ones the next start works from, once the write has ended well; a write that
fails, or that a reset cuts off, makes the next start load the defaults; and no command but SAVE, STORE_WRITE_END and
a reset or start that cuts a write off changes the store, so what a start finds is what the last of these left
(R170 to R172). -/
def Obligations.SavedSettingsSurviveAReset : Prop :=
  (∀ (p : Port) (pins : StartPins) (s : State), s.MayRequest p .save → s.nv.writing = none →
    (∃ t, runAll [.save p, .storeWriteEnd true, .resetAsserted, .resetPin pins] s = some t ∧
      t.activeImage = s.activeImage ∧ t.pendingImage = s.activeImage) ∧
    (∃ t, runAll [.save p, .storeWriteEnd true, .powerOn pins] s = some t ∧
      t.activeImage = s.activeImage ∧ t.pendingImage = s.activeImage) ∧
    (∃ t, runAll [.save p, .storeWriteEnd false, .powerOn pins] s = some t ∧
      t.activeImage = defaultImage ∧ t.pendingImage = defaultImage) ∧
    (∃ t, runAll [.save p, .resetAsserted, .resetPin pins] s = some t ∧
      t.activeImage = defaultImage ∧ t.pendingImage = defaultImage)) ∧
  (∀ (i : Instr) (s : State), (∀ p, i ≠ .save p) → (∀ matched, i ≠ .storeWriteEnd matched) →
    (s.nv.writing = none ∨ i ≠ .resetAsserted ∧ (∀ pins, i ≠ .powerOn pins) ∧ ∀ pins, i ≠ .resetPin pins) →
    ∃ t, exec i s = .next t ∧ t.nv = s.nv)

/-- The stored form of an image (R170): its 16 district sets in 24 bytes each, its 4 feed sets in 6 and its 64 chain
entries in 10, in this order, which makes 1048 bytes for every image in range; its check word and the sum of these
bytes make FFFFh, modulo 65536 (the check word is FFFFh minus the sum). A store is valid when it holds the check word
of its image. -/
def Obligations.AStoredImageIs1048Bytes : Prop :=
  (∀ i : Image, i.bytes =
    ([0, 1, 2, 3, 4, 5, 6, 7, 8, 9, 10, 11, 12, 13, 14, 15] : List DistrictId).flatMap
      (fun d => (i.district d).bytes) ++
    ([0, 1, 2, 3] : List FeedId).flatMap (fun f => (i.feed f).bytes) ++
    (List.finRange 64).flatMap (fun e => (i.entry e).bytes)) ∧
  (∀ ds : DistrictSet, ds.bytes =
    [byteOf ds.feed.val, byteOf ds.kind.code] ++ twoBytes ds.h ++ twoBytes ds.t ++ twoBytes ds.l ++ twoBytes ds.q ++
      twoBytes ds.w ++ [byteOf ds.r] ++ twoBytes ds.coolDown ++ twoBytes ds.settle ++ twoBytes ds.occLevel ++
      [if ds.occReports = true then 1 else 0,
       (match ds.partner with
         | some v => byteOf v.val
         | none => 0xFF),
       byteOf ds.deadTime, byteOf ds.checkWindow, if ds.swapOnSlow = true then 1 else 0]) ∧
  (∀ fs : FeedSet, fs.bytes =
    twoBytes fs.p ++ [byteOf fs.s, byteOf fs.debounce, if fs.haltOnError = true then 1 else 0,
      (match fs.chainHead with
        | some e => byteOf e.val
        | none => 0xFF)]) ∧
  (∀ ce : ChainEntry, ce.members.length ≤ 4 → ce.bytes =
    [byteOf ce.feed.val, byteOf ce.members.length] ++ ce.members.map (fun m => byteOf m.val) ++
      List.replicate (4 - ce.members.length) 0xFF ++ twoBytes ce.pause ++
      [if ce.keepPause = true then 1 else 0,
       (match ce.link with
         | some n => byteOf n.val
         | none => 0xFF)]) ∧
  (∀ i : Image, (i.check.toNat + (i.bytes.map BitVec.toNat).sum) % 65536 = 65535) ∧
  (∀ n : Nv, n.valid = true ↔ n.check = some n.image.check) ∧
  ∀ i : Image, i.InRange → i.bytes.length = 1048

/-! ## Samples (chapters 02 to 04) -/

/-- A level below zero is taken as 0 and one above full scale as 1023 (R27); a sample of an UNUSED district, or at an
OPEN switch, changes nothing (R28). -/
def Obligations.SamplesAreClampedOrDiscarded : Prop :=
  ∀ (d : DistrictId) (level : Int) (s : State),
    (level < 0 → exec (.sampleArrival d level) s = exec (.sampleArrival d 0) s) ∧
    (1023 < level → exec (.sampleArrival d level) s = exec (.sampleArrival d 1023) s) ∧
    ((s.dset d).kind = .unused ∨ (s.district d).switch = .opened → exec (.sampleArrival d level) s = .next s)

/-- Every sample that a CLOSED district takes, in whatever state and with whatever follows, is counted once in that
district's running figures, and no other district's figures change (R29, R40, R41). -/
def Obligations.EverySampleIsCountedOnceInItsDistrict : Prop :=
  ∀ (d : DistrictId) (x : Nat) (s : State), x ≤ 1023 → s.inReset = false → (s.dset d).kind ≠ .unused →
    (s.district d).switch = .closed →
    ∃ t, exec (.sampleArrival d x) s = .next t ∧ (t.district d).acct = (s.district d).acct.counted x ∧
      ∀ e, e ≠ d → (t.district e).acct = (s.district e).acct

/-- A change of one district's record changes no other record (R1). A sample at a LIVE district that meets neither
condition, or at a PLAIN one in grace, only updates the record's window, figures and occupancy, with the OCCUPANCY
event where it is due; nothing else changes (R29, R30, R32 to R35, R90). -/
def Obligations.AQuietSampleOnlyUpdatesTheRecord : Prop :=
  (∀ (s : State) (d : DistrictId) (g : District → District),
    (∀ e, (s.modDistrict d g).district e = if e = d then g (s.district d) else s.district e) ∧
    s.modDistrict d g = s.setDistrict d (g (s.district d)) ∧
    { s.modDistrict d g with districts := s.districts } = s ∧ s.dset d = s.activeImage.district d) ∧
  ∀ (d : DistrictId) (x : Nat) (s : State), s.SampleReaches d x → (s.district d).state = .live →
    ((s.dset d).kind = .plain ∧ (s.district d).grace = true ∨
      (s.district d).deferral = none ∧ ¬s.MeetsHard d x ∧ ¬s.MeetsSlow d x) →
    exec (.sampleArrival d x) s = .next (s.recorded d x)

/-- A hard condition at a LENIENT PLAIN district is excused: STRICT, settle timer started, EXCUSES up, EXCUSED posted;
where the slow condition is met as well, the district is then tripped by SLOW (R36, R38). -/
def Obligations.AHardConditionInLenientIsExcused : Prop :=
  ∀ (d : DistrictId) (x : Nat) (s : State), s.SampleReaches d x → (s.district d).state = .live →
    (s.dset d).kind = .plain → (s.district d).grace = false → (s.district d).deferral = none → s.Unguarded d →
    (s.district d).mode = .lenient → s.MeetsHard d x →
    (¬s.MeetsSlow d x → exec (.sampleArrival d x) s = .next ((s.recorded d x).excusedAt d x)) ∧
    (s.MeetsSlow d x → exec (.sampleArrival d x) s =
      .next (((s.recorded d x).excusedAt d x).trippedBy d .slow ((s.district d).averageWith x)))

/-- A trip from LIVE (R37, R39, R80): a STRICT PLAIN district's hard condition trips it by HARD; a slow condition alone
trips a PLAIN district, and a REVERSING one that does not swap on slow, by SLOW; TRIPS and the cause are written,
TRIP is posted, and the district is TRIPPED with its cool-down, or LATCHED at the retry limit (R22, R23). -/
def Obligations.ATripOpensTheSwitch : Prop :=
  ([Condition.hard, .slow].map Condition.cause = [.hard, .slow] ∧
    [Condition.hard, .slow].map Condition.code = [1, 2]) ∧
  ∀ (d : DistrictId) (x : Nat) (s : State), s.SampleReaches d x → (s.district d).state = .live →
    (s.district d).grace = false → (s.district d).deferral = none → s.Unguarded d →
    ((s.dset d).kind = .plain → (s.district d).mode = .strict → s.MeetsHard d x →
      exec (.sampleArrival d x) s = .next ((s.recorded d x).trippedBy d .hard x)) ∧
    (¬s.MeetsHard d x → s.MeetsSlow d x → ((s.dset d).kind = .plain ∨ (s.dset d).swapOnSlow = false) →
      exec (.sampleArrival d x) s =
        .next ((s.recorded d x).trippedBy d .slow ((s.district d).averageWith x)))

/-- A soak sample (R60, R61): below L and with E within Q the soak goes on with n one higher and E grown by the
excess; at the W-th such sample, the average being at or below H, an INDIVIDUAL soak passes (R64, R74): LIVE, STRICT,
settle timer started, suspect count 0, RECOVERIES up, figures kept, SOAK-PASSED posted with the origin code, 1 to 3
(R69). Then its cost and slot return and the grant rule runs, or the feed's waiting copy is made (R111, R113, R115),
and last a waiting copy of the district's own settings (R150 to R152; its place after the feed's is the model's
reading, log 9). -/
def Obligations.ASoakGoesOnOrPasses : Prop :=
  (∀ e : EntryId, [SoakOrigin.individual, .walk e, .walkDefault].map SoakOrigin.code = [1, 2, 3]) ∧
  ∀ (d : DistrictId) (x : Nat) (c : SoakContext) (s : State), s.SampleReaches d x → (s.district d).state = .soaking →
    (s.district d).soak = some c → ¬s.MeetsHard d x → c.sumWith (s.dset d).h x ≤ (s.dset d).q →
    (c.n + 1 ≠ (s.dset d).w → exec (.sampleArrival d x) s =
      .next ((s.recorded d x).modDistrict d (fun r =>
        { r with soak := some { c with n := c.n + 1, e := c.sumWith (s.dset d).h x } }))) ∧
    (c.n + 1 = (s.dset d).w → (s.district d).averageWith x ≤ (s.dset d).h → c.origin = .individual →
      s.RecordsLawful →
      ∃ u, (((s.recorded d x).soakPassedAt d c (c.sumWith (s.dset d).h x)).costReturned (s.feedOfDistrict d)
          c).FeedSettles (s.feedOfDistrict d) u ∧
        ∃ t, u.DistrictSettles d t ∧ exec (.sampleArrival d x) s = .next t)

/-- An INDIVIDUAL soak fails for the first cause it meets (R60, R63, R66): a sample at or above L, SOAK-HARD; E above
Q, SOAK-EXCESS; an average above H at the W-th sample, SOAK-UNSETTLED. Its figures, count, cause and event are
written and it is TRIPPED or LATCHED (R22); then cost and slot return and the grant rule runs, or the feed's waiting
copy is made (R111, R113, R115), and last a waiting copy of the district's own settings (R150 to R152; log 9). -/
def Obligations.ASoakFailsForTheFirstCauseMet : Prop :=
  ([SoakFailure.hard, .excess, .unsettled].map SoakFailure.cause = [.soakHard, .soakExcess, .soakUnsettled] ∧
    [SoakFailure.hard, .excess, .unsettled].map SoakFailure.outcome = [.soakHard, .soakExcess, .soakUnsettled]) ∧
  ∀ (d : DistrictId) (x : Nat) (c : SoakContext) (why : SoakFailure) (e : Nat) (s : State), s.SampleReaches d x →
    (s.district d).state = .soaking → (s.district d).soak = some c → c.origin = .individual → s.RecordsLawful →
    (s.MeetsHard d x ∧ why = .hard ∧ e = c.e ∨
      ¬s.MeetsHard d x ∧ (s.dset d).q < c.sumWith (s.dset d).h x ∧ why = .excess ∧ e = c.sumWith (s.dset d).h x ∨
      ¬s.MeetsHard d x ∧ c.sumWith (s.dset d).h x ≤ (s.dset d).q ∧ c.n + 1 = (s.dset d).w ∧
        (s.dset d).h < (s.district d).averageWith x ∧ why = .unsettled ∧ e = c.sumWith (s.dset d).h x) →
    ∃ u, (((s.recorded d x).soakFailedAt d c why e).costReturned (s.feedOfDistrict d) c).FeedSettles
        (s.feedOfDistrict d) u ∧
      ∃ t, u.DistrictSettles d t ∧ exec (.sampleArrival d x) s = .next t

/-- The end of a walk soak, in success or for any of the three failures (R66, R74, R113, R127 to R133): the district's
part is as at an INDIVIDUAL soak's end; its cost returns to the pool; the walk takes the member out of flight and
counts its outcome, a failure setting MEMBER-FAILED and halting a feed that halts on error; a waiting admission is
retried; and where the last member of an entry has ended, WALK-ENTRY-DONE is posted (its position, places and figures
as R142 codes them) and the entry is held, pauses, or has its link followed to the next entry or to the walk's end. A
walk that is over does not use the notice. Then the feed settles, and a waiting copy of the district's own settings is
made (log 9). The model's choices are also what the walk context keeps after an end (`Walk.over`, log 12) and that the
tests of R126 alone decide on a member whose kind an apply has changed (log 23). -/
def Obligations.AWalkSoakEndIsCounted : Prop :=
  ((∀ e : EntryId, (Position.entry e).eventCode = e.val) ∧
    (∀ d : DistrictId, (Position.district d).eventCode = 128 + d.val) ∧
    (∀ ps : List Nat, placesMask ps =
      flagsNumber [decide (0 ∈ ps), decide (1 ∈ ps), decide (2 ∈ ps), decide (3 ∈ ps)]) ∧
    ∀ w : Walk, w.figures = min 31 w.admitted + 32 * min 31 w.passed + 1024 * min 31 w.failed) ∧
  ∀ (d : DistrictId) (x : Nat) (c : SoakContext) (f : FeedId) (how : NoticeOutcome) (why : SoakFailure) (e : Nat)
    (s : State),
    s.SampleReaches d x → (s.district d).state = .soaking → (s.district d).soak = some c → c.origin ≠ .individual →
    s.feedOfDistrict d = f → s.RecordsLawful →
    (how = .passed ∧ ¬s.MeetsHard d x ∧ c.sumWith (s.dset d).h x ≤ (s.dset d).q ∧ c.n + 1 = (s.dset d).w ∧
        (s.district d).averageWith x ≤ (s.dset d).h ∧ e = c.sumWith (s.dset d).h x ∨
      how = .failed ∧ s.MeetsHard d x ∧ why = .hard ∧ e = c.e ∨
      how = .failed ∧ ¬s.MeetsHard d x ∧ (s.dset d).q < c.sumWith (s.dset d).h x ∧ why = .excess ∧
        e = c.sumWith (s.dset d).h x ∨
      how = .failed ∧ ¬s.MeetsHard d x ∧ c.sumWith (s.dset d).h x ≤ (s.dset d).q ∧ c.n + 1 = (s.dset d).w ∧
        (s.dset d).h < (s.district d).averageWith x ∧ why = .unsettled ∧ e = c.sumWith (s.dset d).h x) →
    ∀ u, u = (if how = .passed then (s.recorded d x).soakPassedAt d c e
        else (s.recorded d x).soakFailedAt d c why e) →
    ∃ v, (u.costReturned f c).Notified f d how v ∧
      ∃ w, v.FeedSettles f w ∧ ∃ t, w.DistrictSettles d t ∧ exec (.sampleArrival d x) s = .next t

/-- The active partner of V is P exactly where V is REVERSING and its partner setting names P, P is not V, P is PLAIN
and no lower REVERSING district names P; a district is the partner of at most one (R79). The swap of a LIVE REVERSING
district (R80, R81): a hard condition, or a slow one where it swaps on slow, opens the switch, keeps the settle timer,
toggles the polarity and starts the dead time, and a LIVE partner gets grace and loses its deferral; the dead time's
expiry closes the switch in SWAP-CHECK with a check count of 0 (R83). That a DEAD_TIME_EXPIRY whose timer does not
stand at its end is no event is the model's choice (log 3). -/
def Obligations.ASwapOpensWaitsAndCloses : Prop :=
  (∀ (i : Image) (v p : DistrictId),
    (i.partnerOf v = some p ↔
      (i.district v).kind = .reversing ∧ (i.district v).partner = some p ∧ p ≠ v ∧ (i.district p).kind = .plain ∧
        ∀ e, e < v → ¬((i.district e).kind = .reversing ∧ (i.district e).partner = some p)) ∧
    (i.guardianOf p = some v ↔ i.partnerOf v = some p)) ∧
  (∀ (d : DistrictId) (x : Nat) (s : State), s.SampleReaches d x → (s.district d).state = .live →
    (s.dset d).kind = .reversing → (s.district d).grace = false → (s.district d).deferral = none →
    (s.MeetsHard d x ∨ s.MeetsSlow d x ∧ (s.dset d).swapOnSlow = true) →
    ∃ t, t = (s.recorded d x).modDistrict d (fun r =>
        { r.darkened .swapping with
          settle := r.settle, preSwap := some r.polarity, deadTime := some (s.dset d).deadTime
          polarity := match r.polarity with
            | .normal => .swapped
            | .swapped => .normal }) ∧
      (∀ p, s.activeImage.partnerOf d = some p → (s.district p).state = .live →
        exec (.sampleArrival d x) s =
          .next (t.modDistrict p (fun r => { r with grace := true, deferral := none }))) ∧
      ((∀ p, s.activeImage.partnerOf d = some p → (s.district p).state ≠ .live) →
        exec (.sampleArrival d x) s = .next t)) ∧
  (∀ (d : DistrictId) (s : State), s.inReset = false → (s.district d).Lawful →
    ((s.district d).deadTime = some 0 → exec (.deadTimeExpiry d) s =
      .next (s.modDistrict d (fun r =>
        { r with state := .swapCheck, switch := .closed, deadTime := none, checkCount := some 0 }))) ∧
    ((s.district d).deadTime ≠ some 0 → exec (.deadTimeExpiry d) s = .next s))

/-- The swap check (R84): a sample that meets neither condition raises the check count; the last of the check window
ends the swap in success (R85): LIVE in the new polarity, SWAPS up, SWAPPED posted, the partner's grace over; a hard
or slow condition ends it in failure (R86): the old polarity, SWAP-FAILS and TRIPS up, SWAP-FAILED posted, the
partner's grace over, TRIPPED or LATCHED. Either end makes a waiting copy of the district's settings (R89, R150). -/
def Obligations.ASwapCheckSucceedsOrFails : Prop :=
  ([Polarity.normal, .swapped].map Polarity.code = [0, 1]) ∧
  ∀ (d : DistrictId) (x n : Nat) (q : Polarity) (s : State), s.SampleReaches d x →
    (s.district d).state = .swapCheck → (s.district d).checkCount = some n → (s.district d).preSwap = some q →
    s.RecordsLawful →
    (¬s.MeetsHard d x → ¬s.MeetsSlow d x → n + 1 ≠ (s.dset d).checkWindow →
      exec (.sampleArrival d x) s =
        .next ((s.recorded d x).modDistrict d (fun r => { r with checkCount := some (n + 1) }))) ∧
    (¬s.MeetsHard d x → ¬s.MeetsSlow d x → n + 1 = (s.dset d).checkWindow →
      ∃ t, ((((s.recorded d x).modDistrict d (fun r =>
          { r with
            state := .live, checkCount := none, preSwap := none
            stats := { r.stats with swaps := r.stats.swaps.oneMore } })).postDistrict .swapped d
          (s.district d).polarity.code ((s.district d).averageWith x)).partnerGraceOver d).DistrictSettles d t ∧
        exec (.sampleArrival d x) s = .next t) ∧
    (∀ test figure, (s.MeetsHard d x ∧ test = 1 ∧ figure = x ∨
        ¬s.MeetsHard d x ∧ s.MeetsSlow d x ∧ test = 2 ∧ figure = (s.district d).averageWith x) →
      ∃ t, (((((s.recorded d x).modDistrict d (fun r =>
          { r with
            lastCause := .swapFailed, polarity := q, preSwap := none, checkCount := none
            stats := { r.stats with
              swapFails := r.stats.swapFails.oneMore, trips := r.stats.trips.oneMore } })).postDistrict .swapFailed d
          (6 + 16 * test) figure).partnerGraceOver d).tripsOrLatches d .swapFailed).DistrictSettles d t ∧
        exec (.sampleArrival d x) s = .next t)

/-- A condition at a PLAIN district whose guarding REVERSING district is LIVE is deferred by one sample (R91), HARD
with the sample where both are met; the next sample resolves a deferral first (R92): a HARD one in LENIENT is
excused, any other trips the district with the deferred cause and figure. A district still LIVE after an excuse has the
new sample evaluated (R34, R92): under a LIVE guardian a condition is deferred anew; otherwise a hard one trips the now
STRICT district by HARD, and a slow one alone by SLOW. -/
def Obligations.APartnerDefersAndThenResolves : Prop :=
  ∀ (d : DistrictId) (x : Nat) (s : State), s.SampleReaches d x → (s.district d).state = .live →
    (s.dset d).kind = .plain → (s.district d).grace = false →
    (∀ v, s.activeImage.partnerOf v = some d → (s.district v).state = .live → (s.district d).deferral = none →
      (s.MeetsHard d x → exec (.sampleArrival d x) s =
        .next ((s.recorded d x).modDistrict d (fun r =>
          { r with deferral := some { cause := .hard, figure := x } }))) ∧
      (¬s.MeetsHard d x → s.MeetsSlow d x → exec (.sampleArrival d x) s =
        .next ((s.recorded d x).modDistrict d (fun r =>
          { r with deferral := some { cause := .slow, figure := (s.district d).averageWith x } })))) ∧
    (∀ df, (s.district d).deferral = some df →
      (df.cause = .slow ∨ (s.district d).mode = .strict → exec (.sampleArrival d x) s =
        .next (((s.recorded d x).modDistrict d (fun r => { r with deferral := none })).trippedBy d df.cause
          df.figure)) ∧
      (df.cause = .hard → (s.district d).mode = .lenient → ¬s.MeetsHard d x → ¬s.MeetsSlow d x →
        exec (.sampleArrival d x) s =
          .next (((s.recorded d x).modDistrict d (fun r => { r with deferral := none })).excusedAt d df.figure)) ∧
      (df.cause = .hard → (s.district d).mode = .lenient →
        ∀ u, u = ((s.recorded d x).modDistrict d (fun r => { r with deferral := none })).excusedAt d df.figure →
          (∀ v, s.activeImage.partnerOf v = some d → (s.district v).state = .live →
            (s.MeetsHard d x → exec (.sampleArrival d x) s =
              .next (u.modDistrict d (fun r => { r with deferral := some { cause := .hard, figure := x } }))) ∧
            (¬s.MeetsHard d x → s.MeetsSlow d x → exec (.sampleArrival d x) s =
              .next (u.modDistrict d (fun r =>
                { r with deferral := some { cause := .slow, figure := (s.district d).averageWith x } })))) ∧
          (s.Unguarded d →
            (s.MeetsHard d x → exec (.sampleArrival d x) s = .next (u.trippedBy d .hard x)) ∧
            (¬s.MeetsHard d x → s.MeetsSlow d x → exec (.sampleArrival d x) s =
              .next (u.trippedBy d .slow ((s.district d).averageWith x))))))

/-! ## District timers -/

/-- SETTLE_EXPIRY makes the district LENIENT with a retry count of 0 and posts SETTLED with the count as it stood
(R20, R165). COOL_DOWN_EXPIRY of a TRIPPED district (R49, R53, R111, R112): it joins the tail of its feed's queue, and
the grant rule runs: it and those before it wait there while the feed is not UP or the head does not fit, and as many
heads as slots and pool allow are granted: SOAKING with an INDIVIDUAL origin, the retry count one higher up to R (R55).
The expiry of a timer that does not stand at its end does not happen (log 3). -/
def Obligations.SettlingForgivesAndCoolingQueues : Prop :=
  ∀ (d : DistrictId) (f : FeedId) (s : State), s.inReset = false → (s.district d).Lawful → s.feedOfDistrict d = f →
    ((s.district d).settle = some 0 → exec (.settleExpiry d) s =
      .next ((s.modDistrict d (fun r => { r with settle := none, mode := .lenient, retry := 0 })).postDistrict
        .settled d 0 (s.district d).retry)) ∧
    ((s.district d).settle ≠ some 0 → exec (.settleExpiry d) s = .next s) ∧
    ((s.district d).coolDown ≠ some 0 → exec (.coolDownExpiry d) s = .next s) ∧
    ((s.district d).coolDown = some 0 → ∀ hs rest, (s.queuedAt f d).GrantsAre f hs rest →
      exec (.coolDownExpiry d) s = .next ((s.queuedAt f d).withGranted f hs rest))

/-! ## Feeds (chapter 05) -/

/-- A change of one feed's record changes no other record (R96). LINE_CHANGE and DEBOUNCE_EXPIRY short of a fault
(R98, R102 to R104): a HEALTHY level on a FAULTED line starts the debounce timer, a FAULTED level on it stops the
timer, an unchanged level does nothing (log 17); the expiry accepts the level, sets ROSE and posts FEED-UP, and a feed
without DARK districts is UP at once; a timer that does not stand at its end has no expiry (log 3). -/
def Obligations.ARisingLineIsDebouncedAndAccepted : Prop :=
  (∀ (s : State) (f : FeedId) (g : Feed → Feed) (h : Walk → Walk),
    (∀ e, (s.modFeed f g).feed e = if e = f then g (s.feed f) else s.feed e) ∧
    { s.modFeed f g with feeds := s.feeds } = s ∧
    s.modWalk f h = s.modFeed f (fun x => { x with walk := h x.walk }) ∧ s.walk f = (s.feed f).walk ∧
    s.fset f = s.activeImage.feed f) ∧
  ∀ (f : FeedId) (s : State), s.inReset = false →
    (∀ level, (s.feed f).raw = level → exec (.lineChange f level) s = .next s) ∧
    ((s.feed f).accepted = .faulted → (s.feed f).raw = .faulted → exec (.lineChange f .healthy) s =
      .next (s.modFeed f (fun x => { x with raw := .healthy, debounce := some (s.fset f).debounce }))) ∧
    ((s.feed f).accepted = .faulted → (s.feed f).raw = .healthy → exec (.lineChange f .faulted) s =
      .next (s.modFeed f (fun x => { x with raw := .faulted, debounce := none }))) ∧
    ((s.feed f).debounce ≠ some 0 → exec (.debounceExpiry f) s = .next s) ∧
    ((s.feed f).debounce = some 0 → (∀ d, s.feedOfDistrict d = f → (s.district d).state ≠ .dark) →
      exec (.debounceExpiry f) s =
        .next ((s.modFeed f (fun x =>
          { x with debounce := none, accepted := .healthy, rose := true, state := .up })).post
          { kind := .feedUp, subject := .feed f, origin := .device, detail := 3, value := 0 }))

/-- A district belongs to the feed its active settings name (R96), and a mask has bit n for district n. A fault is
accepted at once (R99 to R102, R140): the soaking districts, and the energised ones whose newest sample
is at or above T, are implicated and their suspect counts rise, to at most 2; every energised, swapping, TRIPPED or
QUEUED district goes DARK, a partner's grace ending with its swap; queue, pool and slots are emptied, a walk is
aborted, the feed is DOWN with FELL set, and FEED-DOWN is posted. Last come the waiting copies: of the darkened
districts, then of the feed, no district soaking any more, then of the chain table where no feed walks any more (R115,
R150, R154; their order is the model's choice, log 16). Nothing else changes. What the
walk context keeps after the abort (`Walk.over`) is the model's choice (log 12). -/
def Obligations.AFaultDarkensItsFeed : Prop :=
  (∀ (s : State) (f : FeedId) (d : DistrictId) (st : DState), s.feedOfDistrict d = (s.activeImage.district d).feed ∧
    allDistricts = [0, 1, 2, 3, 4, 5, 6, 7, 8, 9, 10, 11, 12, 13, 14, 15] ∧
    s.districtsOf f = allDistricts.filter (fun e => decide (s.feedOfDistrict e = f)) ∧
    s.inState f st = (s.districtsOf f).filter (fun e => decide ((s.district e).state = st))) ∧
  (∀ (ds : List DistrictId) (d : DistrictId), (districtMask ds).getLsbD d.val = decide (d ∈ ds)) ∧
  ∀ (f : FeedId) (s : State), s.inReset = false → (s.feed f).raw = .healthy → (s.feed f).accepted = .healthy →
    s.RecordsLawful →
    ∃ t w v, State.DistrictsSettle ((s.districtsOf f).filter (fun d => decide ((s.district d).state ≠ .off ∧
        (s.district d).state ≠ .dark ∧ (s.district d).state ≠ .latched))) t w ∧
      w.FeedSettles f v ∧ exec (.lineChange f .faulted) s = .next v.chainsSettled ∧
      (t.feed f).implicated = (s.districtsOf f).filter (fun d =>
        decide ((s.district d).state = .soaking) ||
          decide (((s.district d).state = .live ∨ (s.district d).state = .swapCheck ∨
            (s.district d).state = .swapping) ∧ (s.dset d).t ≤ (s.district d).window.getLastD 0)) ∧
      (∀ d, s.feedOfDistrict d = f →
        t.district d =
          (if (s.district d).state = .off ∨ (s.district d).state = .dark ∨ (s.district d).state = .latched then
            s.district d
          else
            { (s.district d).faultDark with
              suspect := if d ∈ (t.feed f).implicated then min 2 ((s.district d).suspect + 1)
                else (s.district d).suspect })) ∧
      (∀ e, s.feedOfDistrict e ≠ f →
        t.district e =
          { s.district e with
            grace := (s.district e).grace && !decide (∃ v : DistrictId, s.feedOfDistrict v = f ∧
              ((s.district v).state = .swapping ∨ (s.district v).state = .swapCheck) ∧
                s.activeImage.partnerOf v = some e) }) ∧
      (∀ g, g ≠ f → t.feed g = s.feed g) ∧
      ((s.feed f).state = .up → t.feed f =
        { s.feed f with
          state := .down, raw := .faulted, accepted := .faulted, debounce := none, fell := true, queue := []
          pool := 0, slots := 0, implicated := (t.feed f).implicated }) ∧
      ((s.feed f).state = .walking ∨ (s.feed f).state = .walkHalted → t.feed f =
        { s.feed f with
          state := .down, raw := .faulted, accepted := .faulted, debounce := none, fell := true, queue := []
          pool := 0, slots := 0, implicated := (t.feed f).implicated
          walk := (s.feed f).walk.over .aborted
          abortedWalks := (s.feed f).abortedWalks.oneMore }) ∧
      t.ReportsLike ((if (s.feed f).state = .walking ∨ (s.feed f).state = .walkHalted then
            s.post { kind := .walkAborted, subject := .feed f, origin := .device
                     detail := byteOf (s.walk f).phase.code, value := halfOf (s.walk f).figures }
          else s).post
        { kind := .feedDown, subject := .feed f, origin := .device, detail := byteOf (s.feed f).state.code
          value := districtMask (t.feed f).implicated }) ∧
      s.SameBeside t

/-! ## Walks (chapter 06) -/

/-- A recovered feed with DARK districts is walked (R103, R123 to R132): FEED-UP and WALK-STARTED are posted and the
first entry of the chain, or the feed's first district where no chain is set, is visited: LINK-ERROR for an empty or
foreign entry; else its DARK members without a suspicion are admitted in list order while their costs fit the pool,
the others (a member listed again among them) are skipped, a foreign one setting FOREIGN-MEMBER and halting a feed
that halts on error, and the first that does not fit waits; an entry that is done at once is reported and goes on to
its pause or its link, and so may the whole walk end in this event. What the walk context keeps after an end
(`Walk.over`) is the model's choice (log 12), as is the admission of a member whose kind alone an apply has changed
(log 23). -/
def Obligations.ARecoveredFeedIsWalked : Prop :=
  ∀ (f : FeedId) (pos : Position) (s : State),
    s.inReset = false → (s.feed f).debounce = some 0 → s.RecordsLawful → s.inState f .dark ≠ [] → s.BeginsAt f pos →
    ∀ u, u = ((s.modFeed f (fun x =>
        { x with debounce := none, accepted := .healthy, rose := true, state := .walking })).post
        { kind := .feedUp, subject := .feed f, origin := .device, detail := 1
          value := districtMask (s.inState f .dark) }).walkBegun f .device 1 →
    ∃ t, (∀ n, u.Visits (State.Links n f) f pos t) ∧ exec (.debounceExpiry f) s = .next t

/-- Members, pause and link are those of the current chain entry; in a default walk the district alone, no pause, and
the feed's next higher district (R124, R130). PAUSE_EXPIRY follows the link (R125, R126, R129, R130, R139): a link of
END ends the walk COMPLETED: its DARK districts are queued or latched, the feed is UP and the grant rule runs; a link
to an entry that is empty or names another feed, or the 65th visit, ends it with LINK-ERROR; any other entry is
worked, and one that is done at once goes on. A timer that does not stand at its end has no expiry (log 3). What the
walk context keeps after an end (`Walk.over`) is the model's choice (log 12), as is the admission of a member whose
kind alone an apply has changed (log 23). -/
def Obligations.APauseEndsInALinkOrTheEnd : Prop :=
  (∀ (f : FeedId) (s : State),
    (∀ e, (s.walk f).position = .entry e → s.members f = (s.activeImage.entry e).members ∧
      s.pauseAfter f = (s.activeImage.entry e).pause ∧ s.keepPause f = (s.activeImage.entry e).keepPause ∧
      s.nextPosition f = (s.activeImage.entry e).link.map Position.entry) ∧
    (∀ d, (s.walk f).position = .district d → s.members f = [d] ∧ s.pauseAfter f = 0 ∧ s.keepPause f = false ∧
      ∀ pos, s.nextPosition f = some pos ↔ ∃ n, pos = .district n ∧ s.feedOfDistrict n = f ∧ d < n ∧
        ∀ e, s.feedOfDistrict e = f → d < e → n ≤ e)) ∧
  ∀ (f : FeedId) (s : State), s.inReset = false → s.RecordsLawful →
    ((s.walk f).phase = .pausing → (s.walk f).pause = some 0 →
      ∃ t, (∀ n, State.Links n f (s.modWalk f (fun w => { w with pause := none })) t) ∧
        exec (.pauseExpiry f) s = .next t) ∧
    ((s.walk f).phase ≠ .pausing ∨ (s.walk f).pause ≠ some 0 → exec (.pauseExpiry f) s = .next s)

/-- END_WALK on a walking or halted feed (R136, R139): every DARK district with a suspect count of 2 is LATCHED by
FEED-FAULT, the other DARK ones join the wait queue in ascending order, WALKS-ENDED rises, WALK-ENDED is posted, the
feed is UP, the grant rule grants the heads that fit, and a waiting chain table is copied where no feed walks any
more; in any other feed state the answer is REFUSED-BUSY. What the walk context keeps after the end (position, member
position, step count: `Walk.over`) is the model's choice (log 12). -/
def Obligations.EndingAWalkQueuesOrLatchesTheDark : Prop :=
  ∀ (p : Port) (f : FeedId) (s : State), s.MayRequest p .endWalk →
    ((s.feed f).state ≠ .walking → (s.feed f).state ≠ .walkHalted → exec (.endWalk p (byteOf f.val)) s =
      .next (s.respond p 0x39 { status := .refusedBusy, data := [byteOf (s.feed f).state.code] })) ∧
    ((s.feed f).state = .walking ∨ (s.feed f).state = .walkHalted → s.RecordsLawful →
      ∃ t, s.EndsWalk f (.port p) .command t ∧
        exec (.endWalk p (byteOf f.val)) s = .next (t.respond p 0x39 { status := .ok, data := [3] }))

/-- HALT_WALK, RESUME_WALK and CLEAR_WALK_ERRORS (R133 to R135, R137): a WALKING feed halts, a pause becoming
ENTRY-HELD; a halted walk goes on: the pause of a held entry starts again, or, where it has none, its link is followed
at once; in an entry the admission goes on where it stood, and an entry that is done completes; both commands post
their event; in another state they are refused with the state's code; clearing answers OK exactly where a flag was
set. A walk that goes on may end in the same event: what its context then keeps (`Walk.over`) is the model's choice
(log 12), as are the admission of a member whose kind alone an apply has changed (log 23) and that WALK-HALTED of a
pausing walk names the done entry (log 25). -/
def Obligations.WalksHaltResumeAndForgetErrors : Prop :=
  ∀ (p : Port) (f : FeedId) (s : State),
    (s.MayRequest p .haltWalk →
      ((s.feed f).state ≠ .walking → exec (.haltWalk p (byteOf f.val)) s =
        .next (s.respond p 0x37 { status := .refusedBusy, data := [byteOf (s.feed f).state.code] })) ∧
      ((s.feed f).state = .walking → exec (.haltWalk p (byteOf f.val)) s =
        .next ((s.walkStops f (.port p) 1 255).respond p 0x37 { status := .ok, data := [2] }))) ∧
    (s.MayRequest p .resumeWalk →
      ((s.feed f).state ≠ .walkHalted → exec (.resumeWalk p (byteOf f.val)) s =
        .next (s.respond p 0x38 { status := .refusedBusy, data := [byteOf (s.feed f).state.code] })) ∧
      ((s.feed f).state = .walkHalted → s.RecordsLawful →
        ∀ u, u = (s.modFeed f (fun x => { x with state := .walking })).post
          { kind := .walkStarted, subject := .feed f, origin := .port p
            detail := if (s.walk f).kind = .default then 19 else 3
            value := districtMask (s.inState f .dark) } →
        ((s.walk f).phase = .entryHeld →
          (0 < s.pauseAfter f → (s.walk f).entryAdmitted = true ∨ s.keepPause f = true →
            exec (.resumeWalk p (byteOf f.val)) s = .next ((u.modWalk f (fun w =>
              { w with phase := .pausing, pause := some (s.pauseAfter f) })).respond p 0x38
                { status := .ok, data := [1] })) ∧
          (s.pauseAfter f = 0 ∨ (s.walk f).entryAdmitted = false ∧ s.keepPause f = false →
            ∃ t, (∀ n, State.Links n f u t) ∧ exec (.resumeWalk p (byteOf f.val)) s =
              .next (t.respond p 0x38 { status := .ok, data := [byteOf (t.feed f).state.code] }))) ∧
        ((s.walk f).phase = .inEntry → (s.walk f).memberPos ≤ (s.members f).length →
          ∃ t, (∀ n, u.Works (State.Links n f) f t) ∧ exec (.resumeWalk p (byteOf f.val)) s =
            .next (t.respond p 0x38 { status := .ok, data := [byteOf (t.feed f).state.code] })))) ∧
    (s.MayRequest p .clearWalkErrors → exec (.clearWalkErrors p (byteOf f.val)) s =
      .next ((s.modFeed f (fun x =>
        { x with
          walk := { x.walk with linkError := false, foreignMember := false, memberFailed := false } })).respond p 0x3A
        { status := if (s.walk f).linkError = true ∨ (s.walk f).foreignMember = true ∨
              (s.walk f).memberFailed = true then .ok else .unchanged
          data := [byteOf (s.feed f).state.code] }))

/-- CYCLE_FEED (R116): refused without effect where the feed is not UP or a district of it is SOAKING; else its
energised, swapping, TRIPPED and QUEUED districts go DARK as at an accepted fault, a swap's partner losing its grace,
and the queue is empty; waiting copies of the darkened are made from DARK, before the walk starts (R89, log 11);
WALK-STARTED is posted, and the first position is visited, the walk ending COMPLETED where a default order has none;
the response carries the mask of the darkened. What the walk context keeps where the walk ends (`Walk.over`) is the
model's choice (log 12), as are the admission of a member whose kind alone an apply has changed (log 23) and that a
darkened TRIPPED district has no cool-down expiry left by which to join the frozen queue that R117 names (log 24). -/
def Obligations.CycleFeedDarkensAndWalks : Prop :=
  ∀ (p : Port) (f : FeedId) (s : State), s.MayRequest p .cycleFeed →
    ((s.feed f).state ≠ .up ∨ (∃ d, s.feedOfDistrict d = f ∧ (s.district d).state = .soaking) →
      exec (.cycleFeed p (byteOf f.val)) s = .next (s.respond p 0x36 { status := .refusedBusy, data := [] })) ∧
    ((s.feed f).state = .up → (∀ d, s.feedOfDistrict d = f → (s.district d).state ≠ .soaking) → s.RecordsLawful →
      (∀ d ∈ (s.feed f).queue, s.feedOfDistrict d = f ∧ (s.district d).state = .queued) →
      ∀ dark, dark = (s.districtsOf f).filter (fun d => decide ((s.district d).state ≠ .off ∧
        (s.district d).state ≠ .dark ∧ (s.district d).state ≠ .latched)) →
      ∀ u, u = ({ s with
          districts := Vector.ofFn (fun (e : DistrictId) =>
            if e ∈ dark then (s.district e).faultDark
            else
              { s.district e with
                grace := (s.district e).grace && !decide (∃ v : DistrictId, v ∈ dark ∧
                  ((s.district v).state = .swapping ∨ (s.district v).state = .swapCheck) ∧
                    s.activeImage.partnerOf v = some e) }) } : State).modFeed f
          (fun x => { x with state := .walking, queue := [] }) →
      ∃ w, State.DistrictsSettle dark u w ∧
        ∃ t, exec (.cycleFeed p (byteOf f.val)) s = .next (t.respond p 0x36
            { status := .ok, data := halfBytes (districtMask dark) }) ∧
          (∀ pos, w.BeginsAt f pos → ∀ n, (w.walkBegun f (.port p) 2).Visits (State.Links n f) f pos t) ∧
          ((∀ pos, ¬w.BeginsAt f pos) → (w.walkBegun f (.port p) 2).EndsWalk f .device .completed t))

/-! ## Reads (chapters 01, 02, 05, 06, 07, 08, 09) -/

/-- READ_DISTRICT and READ_DISTRICT_STATS of districts 0 to 15 (R25, R26): the 28 bytes of the summary and the 8 bytes
of the statistics, in the codes of R26, and nothing but the requesting port's exchange changes. -/
def Obligations.DistrictReadsAnswerTheRecord : Prop :=
  ([DState.off, .dark, .live, .swapping, .swapCheck, .tripped, .queued, .soaking, .latched].map DState.code =
      [0, 1, 2, 3, 4, 5, 6, 7, 8] ∧
    [Cause.none, .hard, .slow, .soakHard, .soakExcess, .soakUnsettled, .swapFailed, .feedFault].map Cause.code =
      [0, 1, 2, 3, 4, 5, 6, 7] ∧
    [Kind.plain, .reversing, .unused].map Kind.code = [0, 1, 2] ∧
    [Occupancy.unknown, .vacant, .occupied].map Occupancy.code = [0, 1, 2] ∧
    [SoakOutcome.passed, .soakHard, .soakExcess, .soakUnsettled, .aborted].map SoakOutcome.code = [1, 2, 3, 4, 5] ∧
    [Condition.hard, .slow].map Condition.code = [1, 2]) ∧
  ∀ (p : Port) (d : DistrictId) (s : State) (r : District) (ds : DistrictSet), r = s.district d → ds = s.dset d →
    (s.MayRequest p .readDistrict → exec (.readDistrict p (byteOf d.val)) s =
      .next (s.respond p 0x10 (Reply.ok (
        [byteOf d.val, byteOf r.state.code,
         byteOf (flagsNumber [decide (r.switch = .closed), decide (r.polarity = .swapped), decide (r.mode = .strict),
           r.seen, r.grace, r.applyDeferred, decide (r.preSwap ≠ none), decide (r.preSwap = some .swapped)]),
         byteOf (flagsNumber [r.holds.a, r.holds.b, r.holds.c] + 16 * ds.kind.code + 64 * r.occupancy.code),
         byteOf (r.retry + 16 * r.suspect + 64 * ds.feed.val), byteOf r.lastCause.code,
         byteOf (r.sum / 8), byteOf (r.sum / 8 / 256), byteOf r.fill,
         (match r.soak.map SoakContext.origin with
           | none => 0
           | some .individual => 1
           | some (.walk _) => 2
           | some .walkDefault => 3),
         (match r.soak.map SoakContext.origin with
           | some (.walk e) => byteOf e.val
           | some .individual => 0xFF
           | some .walkDefault => 0xFF
           | none => 0xFF)] ++
        twoBytes ((r.soak.map SoakContext.n).getD 0) ++ twoBytes ((r.soak.map SoakContext.e).getD 0) ++
        twoBytes ((r.soak.map SoakContext.cost).getD 0) ++ twoBytes (r.settle.getD 0) ++
        twoBytes (match r.coolDown with
          | some n => n
          | none => r.deadTime.getD 0) ++
        [byteOf ((r.lastSoak.map (fun l => l.outcome.code)).getD 0)] ++
        twoBytes ((r.lastSoak.map LastSoak.e).getD 0) ++ twoBytes ((r.lastSoak.map LastSoak.used).getD 0) ++
        [byteOf (r.checkCount.getD 0), byteOf ((r.deferral.map (fun x => x.cause.code)).getD 0)])))) ∧
    (s.MayRequest p .readDistrictStats → exec (.readDistrictStats p (byteOf d.val)) s =
      .next (s.respond p 0x11 (Reply.ok (
        [byteOf r.stats.trips.count, byteOf r.stats.excuses.count, byteOf r.stats.recoveries.count,
         byteOf r.stats.soakFails.count, byteOf r.stats.latches.count, byteOf r.stats.swaps.count,
         byteOf r.stats.swapFails.count,
         byteOf (flagsNumber [r.stats.trips.rolled, r.stats.excuses.rolled, r.stats.recoveries.rolled,
           r.stats.soakFails.rolled, r.stats.latches.rolled, r.stats.swaps.rolled, r.stats.swapFails.rolled])]))))

/-- READ_FEED and READ_QUEUE of feeds 0 to 3 (R118, R119, R143): the 12 bytes of the feed section and the 18 of the
walk section, and the queue, head first; nothing but the requesting port's exchange changes. That bits 5 to 7 of the
feed flags and bits 3 to 7 of the rollover flags, which R119 and R143 leave unnamed, read 0 is the model's choice (log
27). -/
def Obligations.FeedReadsAnswerTheRecord : Prop :=
  ([FState.down, .walking, .walkHalted, .up].map FState.code = [0, 1, 2, 3] ∧
    [Phase.idle, .inEntry, .pausing, .entryHeld].map Phase.code = [0, 1, 2, 3] ∧
    [WalkKind.none, .chain, .default].map WalkKind.code = [0, 1, 2] ∧
    [LastEnd.none, .completed, .command, .linkError, .aborted].map LastEnd.code = [0, 1, 2, 3, 4]) ∧
  ∀ (p : Port) (f : FeedId) (s : State) (x : Feed) (w : Walk), x = s.feed f → w = x.walk →
    (s.MayRequest p .readFeed → exec (.readFeed p (byteOf f.val)) s =
      .next (s.respond p 0x12 (Reply.ok (
        [byteOf f.val, byteOf x.state.code,
         byteOf (flagsNumber [decide (x.accepted = .healthy), decide (x.raw = .healthy), x.fell, x.rose,
           x.applyDeferred])] ++
        twoBytes (x.debounce.getD 0) ++ halfBytes (districtMask x.implicated) ++ twoBytes x.pool ++
        [byteOf x.slots, byteOf x.queue.length,
         byteOf (allDistricts.filter (fun d =>
           decide (s.feedOfDistrict d = f ∧ (s.district d).state = .soaking))).length] ++
        [byteOf w.phase.code, byteOf w.kind.code,
         (match w.position with
           | .nowhere => 0xFF
           | .entry e => byteOf e.val
           | .district d => byteOf d.val),
         byteOf w.memberPos, byteOf w.stepCount,
         byteOf (flagsNumber [w.linkError, w.foreignMember, w.memberFailed, w.waiting, w.entryAdmitted])] ++
        twoBytes (w.pause.getD 0) ++ halfBytes (districtMask (w.inFlight.map Member.district)) ++
        [byteOf w.admitted, byteOf w.passed, byteOf w.failed, byteOf x.completed.count, byteOf x.ended.count,
         byteOf x.abortedWalks.count,
         byteOf (flagsNumber [x.completed.rolled, x.ended.rolled, x.abortedWalks.rolled]),
         byteOf w.lastEnd.code])))) ∧
    (s.MayRequest p .readQueue → exec (.readQueue p (byteOf f.val)) s =
      .next (s.respond p 0x13 (Reply.ok (
        [byteOf f.val, byteOf x.queue.length] ++ x.queue.map (fun d => byteOf d.val)))))

/-- READ_SETTINGS and READ_CHAIN_ENTRY (R121, R155): 26 bytes of a district, 8 of a feed and 11 of a chain entry, from
the active image for image 0 and the pending one for image 1, each field in its width with NONE and END as FFh. -/
def Obligations.SettingsReadsAnswerTheImages : Prop :=
  ∀ (p : Port) (s : State) (image : Byte) (i : Image),
    (image = 0 ∧ i = s.activeImage ∨ image = 1 ∧ i = s.pendingImage) →
    (s.MayRequest p .readSettings → ∀ (d : DistrictId) (ds : DistrictSet), ds = i.district d →
      exec (.readSettings p 0 (byteOf d.val) image) s =
        .next (s.respond p 0x14 (Reply.ok (
          [byteOf d.val, image, byteOf ds.feed.val, byteOf ds.kind.code] ++ twoBytes ds.h ++ twoBytes ds.t ++
          twoBytes ds.l ++ twoBytes ds.q ++ twoBytes ds.w ++ [byteOf ds.r] ++ twoBytes ds.coolDown ++
          twoBytes ds.settle ++ twoBytes ds.occLevel ++
          [if ds.occReports = true then 1 else 0,
           (match ds.partner with
             | some v => byteOf v.val
             | none => 0xFF),
           byteOf ds.deadTime, byteOf ds.checkWindow, if ds.swapOnSlow = true then 1 else 0])))) ∧
    (s.MayRequest p .readSettings → ∀ (f : FeedId) (fs : FeedSet), fs = i.feed f →
      exec (.readSettings p 1 (byteOf f.val) image) s =
        .next (s.respond p 0x14 (Reply.ok (
          [byteOf f.val, image] ++ twoBytes fs.p ++
          [byteOf fs.s, byteOf fs.debounce, if fs.haltOnError = true then 1 else 0,
           (match fs.chainHead with
             | some e => byteOf e.val
             | none => 0xFF)])))) ∧
    (s.MayRequest p .readChainEntry → ∀ (e : EntryId) (ce : ChainEntry), ce = i.entry e → ce.members.length ≤ 4 →
      exec (.readChainEntry p (byteOf e.val) image) s =
        .next (s.respond p 0x15 (Reply.ok (
          [byteOf e.val, byteOf ce.feed.val, byteOf ce.members.length] ++ ce.members.map (fun m => byteOf m.val) ++
          List.replicate (4 - ce.members.length) 0xFF ++ twoBytes ce.pause ++
          [if ce.keepPause = true then 1 else 0,
           (match ce.link with
             | some n => byteOf n.val
             | none => 0xFF)]))))

/-- A number, selector, image, option or count that names nothing is answered BAD-TARGET without data and without
effect, by every request that carries one and to which R160 gives no other answer (R14, R25, R26, R46, R116, R118,
R119, R121, R134, R145 to R148, R155, R164, R167). -/
def Obligations.NamesOutOfRangeAreBadTargets : Prop :=
  ∀ (i : Instr) (p : Port) (c : Command) (ps : List Byte) (s : State),
    encodeRequest i = some (p, c, ps) → s.MayRequest p c →
    (match i with
      | .readDistrict _ n => 15 < n.toNat
      | .readDistrictStats _ n => 15 < n.toNat
      | .readFeed _ n => 3 < n.toNat
      | .readQueue _ n => 3 < n.toNat
      | .readSettings _ k n m =>
        1 < k.toNat ∨ 1 < m.toNat ∨ k.toNat = 0 ∧ 15 < n.toNat ∨ k.toNat = 1 ∧ 3 < n.toNat
      | .readChainEntry _ n m => 63 < n.toNat ∨ 1 < m.toNat
      | .readSnapshot _ n => 15 < n.toNat
      | .readEvents _ n => n.toNat = 0 ∨ 8 < n.toNat
      | .readPortStatus _ k => 1 < k.toNat
      | .releaseForeign _ _ k => 2 < k.toNat
      | .setDistrict _ n k _ => 15 < n.toNat ∨ 15 < k.toNat
      | .setFeed _ n k _ => 3 < n.toNat ∨ 4 < k.toNat
      | .setChainEntry _ n _ => 63 < n.toNat
      | .apply _ _ fs => 15 < fs.toNat
      | .cycleFeed _ n => 3 < n.toNat
      | .haltWalk _ n => 3 < n.toNat
      | .resumeWalk _ n => 3 < n.toNat
      | .endWalk _ n => 3 < n.toNat
      | .clearWalkErrors _ n => 3 < n.toNat
      | _ => False) →
    exec i s = .next (s.respond p c.code { status := .badTarget, data := [] })

/-- READ_EVENTS (R165, R167, R168): the oldest unread entries, as many as asked and unread, oldest first, each in the 8
bytes kind, subject, origin, detail, value (low byte first) and stamp (low byte first); the
cursor moves on, the unread count falls, and the linger timer starts again or stops; with nothing unread, UNCHANGED. -/
def Obligations.ReadEventsTakesTheOldestUnread : Prop :=
  ∀ (p : Port) (count : Byte) (k : Nat) (s : State), s.MayRequest p .readEvents → 1 ≤ count.toNat → count.toNat ≤ 8 →
    k = min count.toNat (s.port p).unread →
    ∀ oldest : Nat → Entry, (∀ j, oldest j = s.ring.entries[((s.port p).cursor + Fin.ofNat 128 j).val]'
      (((s.port p).cursor + Fin.ofNat 128 j).isLt)) →
    exec (.readEvents p count) s =
      .next ((s.modPort p (fun q =>
        { q with
          cursor := Fin.ofNat 128 (q.cursor.val + k)
          unread := q.unread - k
          lingerExpired := false
          lingerTimer := if q.unread - k = 0 then none else
            [none, some 10, some 50, some 200, some 1000][q.linger.val]'(q.linger.isLt) })).respond p 0x17
        { status := if k = 0 then .unchanged else .ok
          data := (List.range k).flatMap (fun j =>
            [(oldest j).kind, (oldest j).subject, (oldest j).origin, (oldest j).detail,
             byteOf (oldest j).value.toNat, byteOf ((oldest j).value.toNat / 256),
             byteOf (oldest j).stamp.toNat, byteOf ((oldest j).stamp.toNat / 256)]) })

/-- READ_PORT_STATUS and SET_ATTENTION (R164, R169): the 8 status bytes, read before option 1 clears the counts and the
overrun flag; two attention codes up to 4 are held, with the linger stopped and started anew over unread entries; a
code above 4 is answered BAD-TARGET with the codes as held and no effect. -/
def Obligations.PortStatusAndAttention : Prop :=
  ∀ (p : Port) (s : State) (q : PortRecord), q = s.port p →
    (s.MayRequest p .readPortStatus → ∀ (option : Byte), option.toNat ≤ 1 →
      exec (.readPortStatus p option) s =
        .next ((if option = 0 then s
            else s.modPort p (fun q => { q with badFrames := 0, lost := 0, overrun := false })).respond p 0x18
          (Reply.ok (
            [(match q.role with
               | .disabled => 0
               | .watch => 1
               | .operate => 2
               | .full => 3),
             byteOf q.cursor.val, byteOf q.unread, byteOf q.badFrames, byteOf q.lost,
             byteOf (flagsNumber [q.overrun, s.atn p]), byteOf q.trigger.val, byteOf q.linger.val])))) ∧
    (s.MayRequest p .setAttention → ∀ (trigger linger : Byte),
      (4 < trigger.toNat ∨ 4 < linger.toNat → exec (.setAttention p trigger linger) s =
        .next (s.respond p 0x19 { status := .badTarget, data := [byteOf q.trigger.val, byteOf q.linger.val] })) ∧
      (trigger.toNat ≤ 4 → linger.toNat ≤ 4 → exec (.setAttention p trigger linger) s =
        .next ((s.modPort p (fun q =>
          { q with
            trigger := Fin.ofNat 5 trigger.toNat, linger := Fin.ofNat 5 linger.toNat, lingerExpired := false
            lingerTimer := if q.unread = 0 then none else
              (match linger.toNat with
                | 1 => some 10
                | 2 => some 50
                | 3 => some 200
                | 4 => some 1000
                | _ => none) })).respond p 0x19 { status := .ok, data := [trigger, linger] })))

/-! ## Commands on districts (chapter 01) -/

/-- A mask names district n by its bit n. Every mask command answers with three masks that share no district and
together are the mask sent; an UNUSED district is in the refused one; STATUS is PARTIAL where a district was refused,
else OK where one was changed, else UNCHANGED (R9, R160). -/
def Obligations.MaskCommandsAnswerInThreeMasks : Prop :=
  (∀ mask : Half, namedDistricts mask =
    ([0, 1, 2, 3, 4, 5, 6, 7, 8, 9, 10, 11, 12, 13, 14, 15] : List DistrictId).filter
      (fun d => mask.getLsbD d.val)) ∧
  ∀ (i : Instr) (p : Port) (c : Command) (mask : Half) (s : State),
    (i = .enable p mask ∧ c = .enable ∨ i = .disable p mask ∧ c = .disable ∨ i = .hold p mask ∧ c = .hold ∨
      i = .release p mask ∧ c = .release ∨ i = .clear p mask ∧ c = .clear ∨ i = .markSeen p mask ∧ c = .markSeen ∨
      i = .resetStats p mask ∧ c = .resetStats ∨
      (∃ k : Byte, k.toNat ≤ 2 ∧ i = .releaseForeign p mask k) ∧ c = .releaseForeign) → s.MayRequest p c →
    ∃ (t : State) (done unchanged refused : Half),
      exec i s = .next (t.respond p c.code
        { status := if refused ≠ 0 then .partly else if done ≠ 0 then .ok else .unchanged
          data := halfBytes done ++ halfBytes unchanged ++ halfBytes refused }) ∧
      done ||| unchanged ||| refused = mask ∧ done &&& unchanged = 0 ∧ done &&& refused = 0 ∧
      unchanged &&& refused = 0 ∧
      ∀ d : DistrictId, mask.getLsbD d.val = true → (s.dset d).kind = .unused → refused.getLsbD d.val = true

/-- MARK_SEEN, RELEASE, RELEASE_FOREIGN and RESET_STATS at the named districts (R13, R14, R16, R17): the seen flag is
cleared, the port's mark is taken away, the statistics go to 0; each changed district has its COMMAND-STATE (0 in the
bits of it that R165 leaves unnamed is the model's choice, log 27); beside that nothing changes. -/
def Obligations.MarksHoldsAndCountsAreCleared : Prop :=
  ∀ (p : Port) (mask : Half) (s : State),
    (s.MayRequest p .markSeen → ∃ t : State, exec (.markSeen p mask) s = .next (t.respond p 0x25
        (threeMasks mask (fun d => s.handles mask d && (s.district d).seen) (fun d => !s.handles mask d))) ∧
      (∀ d, t.district d =
        if s.handles mask d = true then { s.district d with seen := false } else s.district d) ∧
      t.ReportsLike (s.announced t p 0x25
        (allDistricts.filter (fun d => s.handles mask d && (s.district d).seen))) ∧ s.SameElsewhere t) ∧
    (∀ (q : Port) (i : Instr) (code : Byte),
      (i = .release p mask ∧ q = p ∧ code = 0x23 ∧ s.MayRequest p .release ∨
        i = .releaseForeign p mask (portCode q) ∧ code = 0x3B ∧ s.MayRequest p .releaseForeign) →
      ∃ t : State, exec i s = .next (t.respond p code
        (threeMasks mask (fun d => s.handles mask d && (s.district d).holds.has q) (fun d => !s.handles mask d))) ∧
      (∀ d, t.district d =
        if s.handles mask d = true then
          { s.district d with
            holds := match q with
              | .a => { (s.district d).holds with a := false }
              | .b => { (s.district d).holds with b := false }
              | .c => { (s.district d).holds with c := false } }
        else s.district d) ∧
      t.ReportsLike (s.announced t p code
        (allDistricts.filter (fun d => s.handles mask d && (s.district d).holds.has q))) ∧ s.SameElsewhere t) ∧
    (s.MayRequest p .resetStats → ∃ t : State, exec (.resetStats p mask) s = .next (t.respond p 0x3C
        (threeMasks mask (fun d => s.handles mask d && decide ((s.district d).stats ≠ zeroStats))
          (fun d => !s.handles mask d))) ∧
      (∀ d, t.district d =
        if s.handles mask d = true then { s.district d with stats := zeroStats } else s.district d) ∧
      t.ReportsLike (s.announced t p 0x3C
        (allDistricts.filter (fun d => s.handles mask d && decide ((s.district d).stats ≠ zeroStats)))) ∧
      s.SameElsewhere t)

/-- HOLD and DISABLE (R11, R12), whatever districts the mask names: after HOLD every named district is OFF with the
port in its hold set, after DISABLE it is OFF; where none of them soaks, swaps or queues, exactly this changes, each
switch opening and each changed district having its COMMAND-STATE. In any state the districts are taken to OFF in
ascending order, each whole before the next: a soak is aborted, its cost and slot return and its notice goes to the
walk, which counts it, retries a waiting admission or completes its entry, and to the feed (R113, R126 to R129); a
swap's partner loses its grace; a QUEUED one leaves the queue and the grant rule runs; then comes COMMAND-STATE, and
after it a waiting copy of its settings (R150). The model's choices are this order in the ring, the notice's events
(WALK-ENTRY-DONE, WALK-ENDED, a feed's SETTINGS-APPLIED) before COMMAND-STATE and the district's copy after it (log
10), what the context of a walk keeps that the notice ends (`Walk.over`, log 12), the admission of a member whose kind
alone an apply has changed (log 23), and 0 in the bits of COMMAND-STATE that R165 leaves unnamed (log 27). -/
def Obligations.HoldAndDisableTakeToOff : Prop :=
  (∀ h : HoldSet, h.has .a = h.a ∧ h.has .b = h.b ∧ h.has .c = h.c) ∧
  ∀ (p : Port) (mask : Half) (s : State),
    (s.MayRequest p .hold → ∃ (t : State) (reply : Reply),
      exec (.hold p mask) s = .next (t.respond p 0x22 reply) ∧
      (∀ d, s.handles mask d = true → (t.district d).state = .off ∧ (t.district d).holds.has p = true) ∧
      ((∀ d, s.handles mask d = true → (s.district d).Lawful ∧ (s.district d).applyDeferred = false ∧
          (s.district d).state ≠ .soaking ∧ (s.district d).state ≠ .swapping ∧ (s.district d).state ≠ .swapCheck ∧
          (s.district d).state ≠ .queued) →
        reply = threeMasks mask (fun d => s.handles mask d && !((s.district d).holds.has p &&
          decide ((s.district d).state = .off))) (fun d => !s.handles mask d) ∧
        (∀ d, t.district d =
          if s.handles mask d = true then
            { (if (s.district d).state = .off then s.district d else (s.district d).switchedOff) with
              holds := match p with
                | .a => { (s.district d).holds with a := true }
                | .b => { (s.district d).holds with b := true }
                | .c => { (s.district d).holds with c := true } }
          else s.district d) ∧
        t.ReportsLike (s.announced t p 0x22 (allDistricts.filter (fun d => s.handles mask d &&
          !((s.district d).holds.has p && decide ((s.district d).state = .off))))) ∧ s.SameElsewhere t)) ∧
    (s.MayRequest p .disable → ∃ (t : State) (reply : Reply),
      exec (.disable p mask) s = .next (t.respond p 0x21 reply) ∧
      (∀ d, s.handles mask d = true → (t.district d).state = .off) ∧
      ((∀ d, s.handles mask d = true → (s.district d).Lawful ∧ (s.district d).applyDeferred = false ∧
          (s.district d).state ≠ .soaking ∧ (s.district d).state ≠ .swapping ∧ (s.district d).state ≠ .swapCheck ∧
          (s.district d).state ≠ .queued) →
        reply = threeMasks mask (fun d => s.handles mask d && decide ((s.district d).state ≠ .off))
          (fun d => !s.handles mask d) ∧
        (∀ d, t.district d =
          if s.handles mask d = true ∧ (s.district d).state ≠ .off then (s.district d).switchedOff
          else s.district d) ∧
        t.ReportsLike (s.announced t p 0x21 (allDistricts.filter (fun d => s.handles mask d &&
          decide ((s.district d).state ≠ .off)))) ∧ s.SameElsewhere t)) ∧
    (s.RecordsLawful →
      (s.MayRequest p .hold → ∃ t : State,
        State.TakenOff p 0x22 true (allDistricts.filter (fun d => s.handles mask d &&
          !((s.district d).holds.has p && decide ((s.district d).state = .off)))) s t ∧
        exec (.hold p mask) s = .next (t.respond p 0x22
          (threeMasks mask (fun d => s.handles mask d && !((s.district d).holds.has p &&
            decide ((s.district d).state = .off))) (fun d => !s.handles mask d)))) ∧
      (s.MayRequest p .disable → ∃ t : State,
        State.TakenOff p 0x21 false (allDistricts.filter (fun d => s.handles mask d &&
          decide ((s.district d).state ≠ .off))) s t ∧
        exec (.disable p mask) s = .next (t.respond p 0x21
          (threeMasks mask (fun d => s.handles mask d && decide ((s.district d).state ≠ .off))
            (fun d => !s.handles mask d)))))

/-- ENABLE and CLEAR (R9, R10, R15), whatever districts the mask names and whatever their feeds do. ENABLE acts on the
OFF districts without a hold, refuses the held and the LATCHED ones and finds nothing to do at any other; CLEAR acts
on the LATCHED ones and finds nothing to do at any other; an UNUSED district is refused. Each district acted on
returns to service in ascending order, each whole before the next, with its retry count (and for CLEAR its suspect
count) at 0: DARK while its feed is not UP; on an UP feed it joins the queue's tail and the grant rule runs, so that
it is QUEUED or, where it is granted, SOAKING with a retry count of 1. Its COMMAND-STATE comes after that, with the
state then reached: SOAKING (code 7) after a grant is DEDUCED (log 10), and 0 in the bits of that event which R165
leaves unnamed is the model's choice (log 27). Where no named district's feed is UP, all that changes is stated
outright. -/
def Obligations.EnableAndClearReturnToService : Prop :=
  (noHolds = { a := false, b := false, c := false } ∧ ∀ h : HoldSet, h.isEmpty = true ↔ h = noHolds) ∧
  ∀ (p : Port) (mask : Half) (s : State),
    ((∀ d, s.handles mask d = true → (s.district d).Lawful ∧ (s.feed (s.feedOfDistrict d)).state ≠ .up) →
      (s.MayRequest p .enable → ∃ t : State, exec (.enable p mask) s = .next (t.respond p 0x20
          (threeMasks mask
            (fun d => s.handles mask d && decide ((s.district d).state = .off) && (s.district d).holds.isEmpty)
            (fun d => !s.handles mask d || decide ((s.district d).state = .latched) ||
              decide ((s.district d).state = .off) && !(s.district d).holds.isEmpty))) ∧
        (∀ d, t.district d =
          if s.handles mask d = true ∧ (s.district d).state = .off ∧ (s.district d).holds = noHolds then
            { s.district d with state := .dark, retry := 0 }
          else s.district d) ∧
        t.ReportsLike (s.announced t p 0x20 (allDistricts.filter (fun d => s.handles mask d &&
          decide ((s.district d).state = .off) && (s.district d).holds.isEmpty))) ∧ s.SameElsewhere t) ∧
      (s.MayRequest p .clear → ∃ t : State, exec (.clear p mask) s = .next (t.respond p 0x24
          (threeMasks mask (fun d => s.handles mask d && decide ((s.district d).state = .latched))
            (fun d => !s.handles mask d))) ∧
        (∀ d, t.district d =
          if s.handles mask d = true ∧ (s.district d).state = .latched then
            { s.district d with state := .dark, retry := 0, suspect := 0 }
          else s.district d) ∧
        t.ReportsLike (s.announced t p 0x24 (allDistricts.filter (fun d => s.handles mask d &&
          decide ((s.district d).state = .latched)))) ∧ s.SameElsewhere t)) ∧
    ((∀ d, s.handles mask d = true → (s.district d).Lawful) →
      (s.MayRequest p .enable → ∃ t : State,
        State.ReturnedBy p 0x20 false (allDistricts.filter (fun d => s.handles mask d &&
          decide ((s.district d).state = .off) && (s.district d).holds.isEmpty)) s t ∧
        exec (.enable p mask) s = .next (t.respond p 0x20
          (threeMasks mask
            (fun d => s.handles mask d && decide ((s.district d).state = .off) && (s.district d).holds.isEmpty)
            (fun d => !s.handles mask d || decide ((s.district d).state = .latched) ||
              decide ((s.district d).state = .off) && !(s.district d).holds.isEmpty)))) ∧
      (s.MayRequest p .clear → ∃ t : State,
        State.ReturnedBy p 0x24 true (allDistricts.filter (fun d => s.handles mask d &&
          decide ((s.district d).state = .latched))) s t ∧
        exec (.clear p mask) s = .next (t.respond p 0x24
          (threeMasks mask (fun d => s.handles mask d && decide ((s.district d).state = .latched))
            (fun d => !s.handles mask d)))))

/-! ## Snapshots (chapter 02) -/

/-- SNAPSHOT copies header, edge flags and every district's figures and window average, starts a new period and clears
the edge flags; SNAPSHOT_KEEP only copies (R42 to R44, R106); READ_SNAPSHOT answers the 17 bytes of header and copy
(R46). -/
def Obligations.SnapshotsCopyEveryDistrict : Prop :=
  ([Port.a, .b, .c].map portCode = [0, 1, 2]) ∧
  ∀ (p : Port) (s : State),
    (∀ (keep : Bool) (i : Instr) (c : Command),
      (i = .snapshot p ∧ c = .snapshot ∧ keep = false ∨ i = .snapshotKeep p ∧ c = .snapshotKeep ∧ keep = true) →
      s.MayRequest p c →
      ∃ t : State, exec i s = .next (t.respond p c.code { status := .ok, data := halfBytes s.now }) ∧
        t.snapshot.kind = (if keep = true then .keep else .snapshot) ∧ t.snapshot.origin = p ∧
        t.snapshot.stamp = s.now ∧
        (∀ f : FeedId, t.snapshot.fell[f.val]'(f.isLt) = (s.feed f).fell ∧
          t.snapshot.rose[f.val]'(f.isLt) = (s.feed f).rose) ∧
        (∀ d, t.district d =
          { s.district d with
            snap :=
              { charge := (s.district d).acct.charge, count := (s.district d).acct.count
                peak := (s.district d).acct.peak, overflow := (s.district d).acct.overflow
                average := (s.district d).sum / 8 }
            acct := if keep = true then (s.district d).acct
              else { charge := 0, count := 0, peak := 0, overflow := false } }) ∧
        (∀ f, t.feed f = if keep = true then s.feed f else { s.feed f with fell := false, rose := false }) ∧
        t.ReportsLike (s.post
          { kind := .snapshotTaken, subject := .nothing, origin := .port p, detail := if keep = true then 1 else 0
            value := districtMask (allDistricts.filter (fun d => (s.district d).acct.overflow)) }) ∧
        t.pending = s.pending ∧ t.inReset = s.inReset ∧ t.now = s.now ∧ t.activeImage = s.activeImage ∧
        t.pendingImage = s.pendingImage ∧ t.chainApplyWaiting = s.chainApplyWaiting ∧ t.nv = s.nv) ∧
    (s.MayRequest p .readSnapshot → ∀ (d : DistrictId) (h : SnapHeader) (y : SnapCopy),
      h = s.snapshot → y = (s.district d).snap → exec (.readSnapshot p (byteOf d.val)) s =
        .next (s.respond p 0x16 (Reply.ok (
          [(match h.kind with
             | .none => 0
             | .snapshot => 1
             | .keep => 2), portCode h.origin] ++ halfBytes h.stamp ++
          [byteOf (flagsNumber (h.fell.toList ++ h.rose.toList))] ++ fourBytes y.charge ++ threeBytes y.count ++
          twoBytes y.peak ++ [if y.overflow = true then 1 else 0] ++ twoBytes y.average))))

/-! ## Settings (chapter 07) -/

/-- SET_DISTRICT, SET_FEED and SET_CHAIN_ENTRY (R145 to R147): the one field, or the whole entry, is clamped as its
table states, written to the pending image and answered as written, with OK-CLAMPED where a value was clamped; nothing
else changes. That a member byte beyond the count, which is not stored, does not count as clamped is the model's choice
(log 26). -/
def Obligations.SetCommandsClampAndWrite : Prop :=
  (∀ i : Image,
    (∀ d e ds, (i.withDistrict d ds).district e = if e = d then ds else i.district e) ∧
    (∀ d ds, (i.withDistrict d ds).feeds = i.feeds ∧ (i.withDistrict d ds).chains = i.chains) ∧
    (∀ f e fs, (i.withFeed f fs).feed e = if e = f then fs else i.feed e) ∧
    (∀ f fs, (i.withFeed f fs).districts = i.districts ∧ (i.withFeed f fs).chains = i.chains) ∧
    (∀ n e ce, (i.withEntry n ce).entry e = if e = n then ce else i.entry e) ∧
    (∀ n ce, (i.withEntry n ce).districts = i.districts ∧ (i.withEntry n ce).feeds = i.feeds)) ∧
  ∀ (p : Port) (s : State),
    (s.MayRequest p .setDistrict → ∀ (d : DistrictId) (field : Byte) (value : Half), field.toNat ≤ 15 →
      exec (.setDistrict p (byteOf d.val) field value) s =
        .next ({ s with
            pendingImage := s.pendingImage.withDistrict d
              ((s.pendingImage.district d).fieldWritten field.toNat value.toNat).1 }.respond p 0x30
          { status := if ((s.pendingImage.district d).fieldWritten field.toNat value.toNat).2 = value.toNat then .ok
              else .okClamped
            data := twoBytes ((s.pendingImage.district d).fieldWritten field.toNat value.toNat).2 })) ∧
    (s.MayRequest p .setFeed → ∀ (f : FeedId) (field : Byte) (value : Half), field.toNat ≤ 4 →
      exec (.setFeed p (byteOf f.val) field value) s =
        .next ({ s with
            pendingImage := s.pendingImage.withFeed f
              ((s.pendingImage.feed f).fieldWritten field.toNat value.toNat).1 }.respond p 0x31
          { status := if ((s.pendingImage.feed f).fieldWritten field.toNat value.toNat).2 = value.toNat then .ok
              else .okClamped
            data := twoBytes ((s.pendingImage.feed f).fieldWritten field.toNat value.toNat).2 })) ∧
    (s.MayRequest p .setChainEntry → ∀ (e : EntryId) (sent : EntryBytes) (members : List DistrictId),
      members = ([sent.member0, sent.member1, sent.member2, sent.member3].take sent.count.toNat).map
        (fun b => Fin.ofNat 16 (min b.toNat 15)) →
      exec (.setChainEntry p (byteOf e.val) sent) s =
        .next ({ s with
            pendingImage := s.pendingImage.withEntry e
              { feed := Fin.ofNat 4 (min sent.feed.toNat 3), members := members
                pause := min sent.pause.toNat 10000, keepPause := decide (sent.keepPause.toNat ≠ 0)
                link := if sent.link.toNat < 64 then some (Fin.ofNat 64 sent.link.toNat) else none } }.respond p 0x32
          { status :=
              if sent.feed.toNat ≤ 3 ∧ sent.count.toNat ≤ 4 ∧
                  (∀ b ∈ [sent.member0, sent.member1, sent.member2, sent.member3].take sent.count.toNat,
                    b.toNat ≤ 15) ∧
                  sent.pause.toNat ≤ 10000 ∧ sent.keepPause.toNat ≤ 1 ∧
                  (sent.link.toNat < 64 ∨ sent.link.toNat = 255) then .ok
              else .okClamped
            data := [byteOf e.val, byteOf (min sent.feed.toNat 3), byteOf members.length] ++
              members.map (fun (m : DistrictId) => byteOf m.val) ++ List.replicate (4 - members.length) 0xFF ++
              twoBytes (min sent.pause.toNat 10000) ++
              [if sent.keepPause.toNat = 0 then 0 else 1, if sent.link.toNat < 64 then sent.link else 0xFF] }))

/-- APPLY from every state (R148 to R152): each named district's pending set is corrected: T above H, L above T, the
partner NONE where it does not stand beside the pending sets of the named and the active sets of the other districts,
with SETTINGS-CORRECTED; a district that soaks or swaps is deferred, any other works from its pending set from then on,
its retry count at most the new R; SETTINGS-APPLIED ends it. For one district the effect of the copy is stated whole,
with a changed guardian, the grant rule, and the fresh start after a change of feed or kind. -/
def Obligations.ApplyCorrectsAndCopies : Prop :=
  (∀ (p : Port) (mask : Half) (feeds : Byte) (s : State), s.MayRequest p .apply → feeds.toNat ≤ 15 → s.RecordsLawful →
    ∃ (t : State) (deferred : Half) (b : Byte) (changed : List DistrictId),
      changed = (namedDistricts mask).filter (fun d =>
        decide (t.pendingImage.district d ≠ s.pendingImage.district d)) ∧
      exec (.apply p mask feeds) s = .next (t.respond p 0x33
        { status := if changed = [] then .ok else .okClamped
          data := halfBytes (mask ^^^ deferred) ++ halfBytes deferred ++ halfBytes (districtMask changed) ++ [b] }) ∧
      mask &&& deferred = deferred ∧ (b &&& 0x0F) ||| (b >>> 4) = feeds ∧ (b &&& 0x0F) &&& (b >>> 4) = 0 ∧
      (∀ d : DistrictId, mask.getLsbD d.val = true →
        t.pendingImage.district d = (s.pendingImage.district d).corrected (fun e =>
          if mask.getLsbD e.val = true then t.pendingImage.district e else s.dset e) d ∧
        (t.pendingImage.district d).Ordered ∧
        (deferred.getLsbD d.val = true → t.dset d = s.dset d ∧ (t.district d).applyDeferred = true) ∧
        (deferred.getLsbD d.val = false → t.dset d = t.pendingImage.district d) ∧
        ((s.district d).state = .soaking ∨ (s.district d).state = .swapping ∨ (s.district d).state = .swapCheck →
          deferred.getLsbD d.val = true) ∧
        ((s.district d).state = .off ∨ (s.district d).state = .dark ∨ (s.district d).state = .live ∨
            (s.district d).state = .tripped ∨ (s.district d).state = .latched →
          deferred.getLsbD d.val = false ∧
          ((t.dset d).feed = (s.dset d).feed → (t.dset d).kind = (s.dset d).kind → ∃ grace deferral,
            t.district d =
              { s.district d with
                retry := min (s.district d).retry (t.dset d).r, grace := grace, deferral := deferral } ∧
            (grace = (s.district d).grace ∧ deferral = (s.district d).deferral ∨ grace = false ∧ deferral = none) ∧
            (t.activeImage.guardianOf d ≠ s.activeImage.guardianOf d → grace = false ∧ deferral = none)))) ∧
      (∀ d : DistrictId, mask.getLsbD d.val = false →
        t.pendingImage.district d = s.pendingImage.district d ∧ t.dset d = s.dset d) ∧
      (∀ f : FeedId, t.fset f = if b.getLsbD f.val = true then s.pendingImage.feed f else s.fset f) ∧
      t.pendingImage.feeds = s.pendingImage.feeds ∧ t.pendingImage.chains = s.pendingImage.chains ∧
      t.activeImage.chains = s.activeImage.chains ∧
      ∃ u, u = changed.foldl (fun u d => u.post
          (correctedEvent d (.port p) (s.pendingImage.district d) (t.pendingImage.district d))) s ∧
        t.ReportsLike (if mask = 0 ∧ feeds = 0 then u else u.post
          { kind := .settingsApplied, subject := .nothing, origin := .port p, detail := feeds, value := mask })) ∧
  (∀ (p : Port) (d : DistrictId) (mask : Half) (corrected : Bool) (s : State), s.MayRequest p .apply →
    mask = 1 <<< d.val → s.RecordsLawful →
    corrected = decide ((s.pendingImage.district d).corrected s.dset d ≠ s.pendingImage.district d) →
    ((s.district d).state = .soaking ∨ (s.district d).state = .swapping ∨ (s.district d).state = .swapCheck →
      exec (.apply p mask 0) s =
        .next ((((s.setCorrected (.port p) d).modDistrict d (fun r => { r with applyDeferred := true })).post
          { kind := .settingsApplied, subject := .nothing, origin := .port p, detail := 0, value := mask }).respond p 0x33
          { status := if corrected = true then .okClamped else .ok
            data := [0, 0] ++ halfBytes mask ++ halfBytes (if corrected = true then mask else 0) ++ [0] })) ∧
    ((s.district d).state ≠ .soaking → (s.district d).state ≠ .swapping → (s.district d).state ≠ .swapCheck →
      ∃ t, (s.setCorrected (.port p) d).Copies d t ∧
        exec (.apply p mask 0) s =
          .next ((t.post
            { kind := .settingsApplied, subject := .nothing, origin := .port p, detail := 0, value := mask }).respond p
            0x33
            { status := if corrected = true then .okClamped else .ok
              data := halfBytes mask ++ [0, 0] ++ halfBytes (if corrected = true then mask else 0) ++ [0] })))

/-- APPLY of one feed, and APPLY_CHAINS (R115, R153, R154): a feed without a SOAKING district takes its pending set at
once, and the grant rule runs on its queue with the new slots and pool; the apply of a feed with a SOAKING district is
deferred (what its copy does when it is made, at the soak's end, stands with the soak ends: `State.FeedSettles`); the
chain table is copied with CHAINS-APPLIED where no feed is walking, and waits otherwise (its copy at a walk's end:
`State.chainsSettled`). -/
def Obligations.FeedsAndChainsApplyAtOnceOrWait : Prop :=
  ∀ (p : Port) (s : State),
    (s.MayRequest p .apply → ∀ (f : FeedId) (feeds : Byte), feeds = 1 <<< f.val →
      ((∀ d, s.feedOfDistrict d = f → (s.district d).state ≠ .soaking) →
        ∀ u, u = { s with activeImage := s.activeImage.withFeed f (s.pendingImage.feed f) }.modFeed f (fun x =>
          { x with applyDeferred := false }) →
        ∀ hs rest, u.GrantsAre f hs rest → exec (.apply p 0 feeds) s =
          .next (((u.withGranted f hs rest).post
            { kind := .settingsApplied, subject := .nothing, origin := .port p, detail := feeds, value := 0 }).respond
            p 0x33 { status := .ok, data := [0, 0, 0, 0, 0, 0, feeds] })) ∧
      ((∃ d, s.feedOfDistrict d = f ∧ (s.district d).state = .soaking) →
        exec (.apply p 0 feeds) s =
          .next (((s.modFeed f (fun x => { x with applyDeferred := true })).post
            { kind := .settingsApplied, subject := .nothing, origin := .port p, detail := feeds, value := 0 }).respond
            p 0x33 { status := .ok, data := [0, 0, 0, 0, 0, 0, feeds <<< 4] }))) ∧
    (s.MayRequest p .applyChains →
      ((∀ f, (s.feed f).state ≠ .walking ∧ (s.feed f).state ≠ .walkHalted) → exec (.applyChains p) s =
        .next (({ s with
            activeImage := { s.activeImage with chains := s.pendingImage.chains }
            chainApplyWaiting := false }.post
          { kind := .chainsApplied, subject := .nothing, origin := .port p, detail := 0, value := 0 }).respond p 0x34
          { status := .ok, data := [0] })) ∧
      ((∃ f, (s.feed f).state = .walking ∨ (s.feed f).state = .walkHalted) → exec (.applyChains p) s =
        .next ({ s with chainApplyWaiting := true }.respond p 0x34 { status := .ok, data := [1] })))

/-! ## Invariants that every step keeps -/

/-- The laws of a district record and its fit to its active settings are kept by every step
(R2 to R4, R6, R7, R21, R25, R30, R31, R40, R58, R62, R78, R100). -/
def Obligations.EveryStepKeepsTheDistrictLaws : Prop :=
  ∀ s t : State, s.DistrictsLawful → step s = .next t → t.DistrictsLawful

/-- Grace is set only under a swap of the district's guardian: kept by every step (R90). -/
def Obligations.EveryStepKeepsTheGraceLaw : Prop :=
  ∀ s t : State, s.GraceLaw → step s = .next t → t.GraceLaw

/-- The laws of a feed record and its walk context are kept by every step (R97, R98, R122, R141). -/
def Obligations.EveryStepKeepsTheFeedLaws : Prop :=
  ∀ s t : State, s.FeedsLawful → step s = .next t → t.FeedsLawful

/-- While a feed is DOWN its districts are OFF, DARK or LATCHED, and while it is UP none is DARK: kept by every step
from a state whose feed records are lawful (R105; the feed laws are a statement of their own). -/
def Obligations.EveryStepKeepsTheDarkLaw : Prop :=
  ∀ s t : State, s.FeedsLawful → s.DarkLaw → step s = .next t → t.DarkLaw

/-- Each QUEUED district is in its own feed's queue and there once, no other district is in a queue, and the pool and
the slots in use are those of the SOAKING districts, within P and S: kept together by every step
(R56, R108 to R110). -/
def Obligations.EveryStepKeepsTheQueueAndPoolLaws : Prop :=
  ∀ s t : State, s.QueueLaw → s.PoolLaw → step s = .next t → t.QueueLaw ∧ t.PoolLaw

/-- A deferred copy waits only while its reason stands: kept by every step from a state whose district and feed records
are lawful (R115, R150, R154; the laws of both are statements of their own). -/
def Obligations.EveryStepKeepsTheWaitingLaw : Prop :=
  ∀ s t : State, s.DistrictsLawful → s.FeedsLawful → s.WaitingLaw → step s = .next t → t.WaitingLaw

/-- Every image is in range, and the active, the stored and the captured ones have H below T below L: kept by every
step (R120, R145 to R149, R170 to R172). -/
def Obligations.EveryStepKeepsTheSettingsLaws : Prop :=
  ∀ s t : State, s.SettingsLawful → step s = .next t → t.SettingsLawful

/-- Every port's cursor, counts, reception and timers stay lawful beside the ring: kept by every step
(R156, R158, R163, R166, R168). -/
def Obligations.EveryStepKeepsThePortLaws : Prop :=
  ∀ s t : State, s.PortsLawful → step s = .next t → t.PortsLawful

/-- The reset state of the model meets every invariant and is the POWER-ON start of a part whose store has never been
written, with the straps and inputs of log 1 (the model's choice of straps and inputs). -/
def Obligations.TheResetStateIsALawfulBlankStart : Prop :=
  State.reset.DistrictsLawful ∧ State.reset.GraceLaw ∧ State.reset.FeedsLawful ∧ State.reset.DarkLaw ∧
    State.reset.QueueLaw ∧ State.reset.PoolLaw ∧ State.reset.WaitingLaw ∧ State.reset.SettingsLawful ∧
    State.reset.PortsLawful ∧
    ∀ s : State, s.nv = blankNv → s.pending = [] →
      exec (.powerOn { roleA := 1, roleB := 3, roleC := 2, autost := false, flt0 := .healthy, flt1 := .healthy,
                       flt2 := .healthy, flt3 := .healthy }) s = .next State.reset

/-! ## The event ring (chapter 09) -/

/-- The 24 kind codes, the subject byte and the origin byte are those of R165. What appending events does (R166,
R168), stated of every append of the model. One event: its entry, with the Timebase count as stamp, stands at the
write position and every other position is kept; the write position moves on; at a port that is not DISABLED the
unread count rises, the first unread entry starting the linger timer, or, where 128 are unread, the cursor moves on,
the lost count rises to at most 255 and overrun is set; nothing else changes. Any number of events: the last 128 of
them stand before the write position, and the counts have moved on by their number. -/
def Obligations.AnAppendedEventReachesEveryPort : Prop :=
  ([EventKind.powerUp, .trip, .excused, .soakPassed, .soakFailed, .latched, .settled, .swapped, .swapFailed,
      .occupancy, .commandState, .feedDown, .feedUp, .walkStarted, .walkEntryDone, .walkHalted, .walkEnded,
      .walkAborted, .settingsApplied, .settingsCorrected, .chainsApplied, .snapshotTaken, .storeSaved,
      .storeFailed].map EventKind.code =
    [0x01, 0x02, 0x03, 0x04, 0x05, 0x06, 0x07, 0x08, 0x09, 0x0A, 0x0B, 0x0C, 0x0D, 0x0E, 0x0F, 0x10, 0x11, 0x12,
     0x13, 0x14, 0x15, 0x16, 0x17, 0x18] ∧
    Subject.nothing.code = 0xFF ∧ (∀ d : DistrictId, (Subject.district d).code.toNat = d.val) ∧
    (∀ f : FeedId, (Subject.feed f).code.toNat = f.val) ∧
    [Origin.port .a, .port .b, .port .c, .device].map Origin.code = [0, 1, 2, 3]) ∧
  (∀ (s : State) (kind : EventKind) (d : DistrictId) (detail value : Nat), s.postDistrict kind d detail value =
    s.post { kind := kind, subject := .district d, origin := .device, detail := byteOf detail
             value := halfOf value }) ∧
  (∀ (s : State) (ev : Event), ∃ t, t = s.post ev ∧ t.ring.write = s.ring.write + 1 ∧
    t.ring.entries[s.ring.write.val]'(s.ring.write.isLt) =
      { kind := ev.kind.code, subject := ev.subject.code, origin := ev.origin.code, detail := ev.detail
        value := ev.value, stamp := s.now } ∧
    (∀ i : RingPos, i ≠ s.ring.write → t.ring.entries[i.val]'(i.isLt) = s.ring.entries[i.val]'(i.isLt)) ∧
    (∀ p, ((s.port p).role = .disabled → t.port p = s.port p) ∧
      ((s.port p).role ≠ .disabled → (s.port p).unread < 128 → t.port p =
        { s.port p with
          unread := (s.port p).unread + 1
          lingerTimer := if (s.port p).unread = 0 then
              [none, some 10, some 50, some 200, some 1000][(s.port p).linger.val]'((s.port p).linger.isLt)
            else (s.port p).lingerTimer }) ∧
      ((s.port p).role ≠ .disabled → 128 ≤ (s.port p).unread → t.port p =
        { s.port p with
          cursor := (s.port p).cursor + 1, overrun := true
          lost := if (s.port p).lost < 255 then (s.port p).lost + 1 else 255 })) ∧
    s.SameElsewhere t ∧ t.districts = s.districts) ∧
  (∀ (s : State) (evs : List Event), ∃ t, t = evs.foldl State.post s ∧
    t.ring.write.val = (s.ring.write.val + evs.length) % 128 ∧
    (∀ k ev, evs[k]? = some ev → evs.length ≤ k + 128 →
      t.ring.entries[(s.ring.write.val + k) % 128]'(Nat.mod_lt _ (by decide)) =
        { kind := ev.kind.code, subject := ev.subject.code, origin := ev.origin.code, detail := ev.detail
          value := ev.value, stamp := s.now }) ∧
    (∀ p, (s.port p).role ≠ .disabled → (s.port p).unread ≤ 128 → (s.port p).lost ≤ 255 →
      (t.port p).unread = min 128 ((s.port p).unread + evs.length) ∧
      (t.port p).lost = min 255 ((s.port p).lost + ((s.port p).unread + evs.length - 128)) ∧
      (t.port p).cursor.val = ((s.port p).cursor.val + ((s.port p).unread + evs.length - 128)) % 128 ∧
      ((t.port p).overrun = true ↔ (s.port p).overrun = true ∨ 128 < (s.port p).unread + evs.length)))
end

