-- ==== Sys2Proof/Laws/State.lean ====
section
/-! SUPPORT. Laws/State.lean: what each update of the state leaves as it was and what it writes: one lemma per field
and per view of the state, for each update; the views of a record just written; and the fields of a district record
that has changed state. -/

namespace Sys2Proof.Machine

/-! ## setDistrict -/

@[simp] theorem State.setDistrict_pending (s : State) (d : DistrictId) (r : District) : (s.setDistrict d r).pending = s.pending := rfl

@[simp] theorem State.setDistrict_inReset (s : State) (d : DistrictId) (r : District) : (s.setDistrict d r).inReset = s.inReset := rfl

@[simp] theorem State.setDistrict_now (s : State) (d : DistrictId) (r : District) : (s.setDistrict d r).now = s.now := rfl

@[simp] theorem State.setDistrict_autostart (s : State) (d : DistrictId) (r : District) : (s.setDistrict d r).autostart = s.autostart := rfl

@[simp] theorem State.setDistrict_feeds (s : State) (d : DistrictId) (r : District) : (s.setDistrict d r).feeds = s.feeds := rfl

@[simp] theorem State.setDistrict_pendingImage (s : State) (d : DistrictId) (r : District) : (s.setDistrict d r).pendingImage = s.pendingImage := rfl

@[simp] theorem State.setDistrict_activeImage (s : State) (d : DistrictId) (r : District) : (s.setDistrict d r).activeImage = s.activeImage := rfl

@[simp] theorem State.setDistrict_chainApplyWaiting (s : State) (d : DistrictId) (r : District) : (s.setDistrict d r).chainApplyWaiting = s.chainApplyWaiting := rfl

@[simp] theorem State.setDistrict_snapshot (s : State) (d : DistrictId) (r : District) : (s.setDistrict d r).snapshot = s.snapshot := rfl

@[simp] theorem State.setDistrict_ring (s : State) (d : DistrictId) (r : District) : (s.setDistrict d r).ring = s.ring := rfl

@[simp] theorem State.setDistrict_ports (s : State) (d : DistrictId) (r : District) : (s.setDistrict d r).ports = s.ports := rfl

@[simp] theorem State.setDistrict_nv (s : State) (d : DistrictId) (r : District) : (s.setDistrict d r).nv = s.nv := rfl

@[simp] theorem State.setDistrict_feed (s : State) (d : DistrictId) (r : District) (g' : FeedId) :
    (s.setDistrict d r).feed g' = s.feed g' := rfl

@[simp] theorem State.setDistrict_walk (s : State) (d : DistrictId) (r : District) (g' : FeedId) :
    (s.setDistrict d r).walk g' = s.walk g' := rfl

@[simp] theorem State.setDistrict_port (s : State) (d : DistrictId) (r : District) (p' : Port) :
    (s.setDistrict d r).port p' = s.port p' := rfl

@[simp] theorem State.setDistrict_dset (s : State) (d : DistrictId) (r : District) (e : DistrictId) :
    (s.setDistrict d r).dset e = s.dset e := rfl

@[simp] theorem State.setDistrict_fset (s : State) (d : DistrictId) (r : District) (g' : FeedId) :
    (s.setDistrict d r).fset g' = s.fset g' := rfl

@[simp] theorem State.setDistrict_feedOfDistrict (s : State) (d : DistrictId) (r : District) (e : DistrictId) :
    (s.setDistrict d r).feedOfDistrict e = s.feedOfDistrict e := rfl

@[simp] theorem State.setDistrict_districtsOf (s : State) (d : DistrictId) (r : District) (g' : FeedId) :
    (s.setDistrict d r).districtsOf g' = s.districtsOf g' := rfl

/-! ## modDistrict -/

@[simp] theorem State.modDistrict_pending (s : State) (d : DistrictId) (g : District → District) : (s.modDistrict d g).pending = s.pending := rfl

@[simp] theorem State.modDistrict_inReset (s : State) (d : DistrictId) (g : District → District) : (s.modDistrict d g).inReset = s.inReset := rfl

@[simp] theorem State.modDistrict_now (s : State) (d : DistrictId) (g : District → District) : (s.modDistrict d g).now = s.now := rfl

@[simp] theorem State.modDistrict_autostart (s : State) (d : DistrictId) (g : District → District) : (s.modDistrict d g).autostart = s.autostart := rfl

@[simp] theorem State.modDistrict_feeds (s : State) (d : DistrictId) (g : District → District) : (s.modDistrict d g).feeds = s.feeds := rfl

@[simp] theorem State.modDistrict_pendingImage (s : State) (d : DistrictId) (g : District → District) : (s.modDistrict d g).pendingImage = s.pendingImage := rfl

@[simp] theorem State.modDistrict_activeImage (s : State) (d : DistrictId) (g : District → District) : (s.modDistrict d g).activeImage = s.activeImage := rfl

@[simp] theorem State.modDistrict_chainApplyWaiting (s : State) (d : DistrictId) (g : District → District) : (s.modDistrict d g).chainApplyWaiting = s.chainApplyWaiting := rfl

@[simp] theorem State.modDistrict_snapshot (s : State) (d : DistrictId) (g : District → District) : (s.modDistrict d g).snapshot = s.snapshot := rfl

@[simp] theorem State.modDistrict_ring (s : State) (d : DistrictId) (g : District → District) : (s.modDistrict d g).ring = s.ring := rfl

@[simp] theorem State.modDistrict_ports (s : State) (d : DistrictId) (g : District → District) : (s.modDistrict d g).ports = s.ports := rfl

@[simp] theorem State.modDistrict_nv (s : State) (d : DistrictId) (g : District → District) : (s.modDistrict d g).nv = s.nv := rfl

@[simp] theorem State.modDistrict_feed (s : State) (d : DistrictId) (g : District → District) (g' : FeedId) :
    (s.modDistrict d g).feed g' = s.feed g' := rfl

@[simp] theorem State.modDistrict_walk (s : State) (d : DistrictId) (g : District → District) (g' : FeedId) :
    (s.modDistrict d g).walk g' = s.walk g' := rfl

@[simp] theorem State.modDistrict_port (s : State) (d : DistrictId) (g : District → District) (p' : Port) :
    (s.modDistrict d g).port p' = s.port p' := rfl

@[simp] theorem State.modDistrict_dset (s : State) (d : DistrictId) (g : District → District) (e : DistrictId) :
    (s.modDistrict d g).dset e = s.dset e := rfl

@[simp] theorem State.modDistrict_fset (s : State) (d : DistrictId) (g : District → District) (g' : FeedId) :
    (s.modDistrict d g).fset g' = s.fset g' := rfl

@[simp] theorem State.modDistrict_feedOfDistrict (s : State) (d : DistrictId) (g : District → District) (e : DistrictId) :
    (s.modDistrict d g).feedOfDistrict e = s.feedOfDistrict e := rfl

@[simp] theorem State.modDistrict_districtsOf (s : State) (d : DistrictId) (g : District → District) (g' : FeedId) :
    (s.modDistrict d g).districtsOf g' = s.districtsOf g' := rfl

/-! ## setFeed -/

@[simp] theorem State.setFeed_pending (s : State) (f : FeedId) (x : Feed) : (s.setFeed f x).pending = s.pending := rfl

@[simp] theorem State.setFeed_inReset (s : State) (f : FeedId) (x : Feed) : (s.setFeed f x).inReset = s.inReset := rfl

@[simp] theorem State.setFeed_now (s : State) (f : FeedId) (x : Feed) : (s.setFeed f x).now = s.now := rfl

@[simp] theorem State.setFeed_autostart (s : State) (f : FeedId) (x : Feed) : (s.setFeed f x).autostart = s.autostart := rfl

@[simp] theorem State.setFeed_districts (s : State) (f : FeedId) (x : Feed) : (s.setFeed f x).districts = s.districts := rfl

@[simp] theorem State.setFeed_pendingImage (s : State) (f : FeedId) (x : Feed) : (s.setFeed f x).pendingImage = s.pendingImage := rfl

@[simp] theorem State.setFeed_activeImage (s : State) (f : FeedId) (x : Feed) : (s.setFeed f x).activeImage = s.activeImage := rfl

@[simp] theorem State.setFeed_chainApplyWaiting (s : State) (f : FeedId) (x : Feed) : (s.setFeed f x).chainApplyWaiting = s.chainApplyWaiting := rfl

@[simp] theorem State.setFeed_snapshot (s : State) (f : FeedId) (x : Feed) : (s.setFeed f x).snapshot = s.snapshot := rfl

@[simp] theorem State.setFeed_ring (s : State) (f : FeedId) (x : Feed) : (s.setFeed f x).ring = s.ring := rfl

@[simp] theorem State.setFeed_ports (s : State) (f : FeedId) (x : Feed) : (s.setFeed f x).ports = s.ports := rfl

@[simp] theorem State.setFeed_nv (s : State) (f : FeedId) (x : Feed) : (s.setFeed f x).nv = s.nv := rfl

@[simp] theorem State.setFeed_district (s : State) (f : FeedId) (x : Feed) (e : DistrictId) :
    (s.setFeed f x).district e = s.district e := rfl

@[simp] theorem State.setFeed_port (s : State) (f : FeedId) (x : Feed) (p' : Port) :
    (s.setFeed f x).port p' = s.port p' := rfl

@[simp] theorem State.setFeed_dset (s : State) (f : FeedId) (x : Feed) (e : DistrictId) :
    (s.setFeed f x).dset e = s.dset e := rfl

@[simp] theorem State.setFeed_fset (s : State) (f : FeedId) (x : Feed) (g' : FeedId) :
    (s.setFeed f x).fset g' = s.fset g' := rfl

@[simp] theorem State.setFeed_feedOfDistrict (s : State) (f : FeedId) (x : Feed) (e : DistrictId) :
    (s.setFeed f x).feedOfDistrict e = s.feedOfDistrict e := rfl

@[simp] theorem State.setFeed_districtsOf (s : State) (f : FeedId) (x : Feed) (g' : FeedId) :
    (s.setFeed f x).districtsOf g' = s.districtsOf g' := rfl

/-! ## modFeed -/

@[simp] theorem State.modFeed_pending (s : State) (f : FeedId) (g : Feed → Feed) : (s.modFeed f g).pending = s.pending := rfl

@[simp] theorem State.modFeed_inReset (s : State) (f : FeedId) (g : Feed → Feed) : (s.modFeed f g).inReset = s.inReset := rfl

@[simp] theorem State.modFeed_now (s : State) (f : FeedId) (g : Feed → Feed) : (s.modFeed f g).now = s.now := rfl

@[simp] theorem State.modFeed_autostart (s : State) (f : FeedId) (g : Feed → Feed) : (s.modFeed f g).autostart = s.autostart := rfl

@[simp] theorem State.modFeed_districts (s : State) (f : FeedId) (g : Feed → Feed) : (s.modFeed f g).districts = s.districts := rfl

@[simp] theorem State.modFeed_pendingImage (s : State) (f : FeedId) (g : Feed → Feed) : (s.modFeed f g).pendingImage = s.pendingImage := rfl

@[simp] theorem State.modFeed_activeImage (s : State) (f : FeedId) (g : Feed → Feed) : (s.modFeed f g).activeImage = s.activeImage := rfl

@[simp] theorem State.modFeed_chainApplyWaiting (s : State) (f : FeedId) (g : Feed → Feed) : (s.modFeed f g).chainApplyWaiting = s.chainApplyWaiting := rfl

@[simp] theorem State.modFeed_snapshot (s : State) (f : FeedId) (g : Feed → Feed) : (s.modFeed f g).snapshot = s.snapshot := rfl

@[simp] theorem State.modFeed_ring (s : State) (f : FeedId) (g : Feed → Feed) : (s.modFeed f g).ring = s.ring := rfl

@[simp] theorem State.modFeed_ports (s : State) (f : FeedId) (g : Feed → Feed) : (s.modFeed f g).ports = s.ports := rfl

@[simp] theorem State.modFeed_nv (s : State) (f : FeedId) (g : Feed → Feed) : (s.modFeed f g).nv = s.nv := rfl

@[simp] theorem State.modFeed_district (s : State) (f : FeedId) (g : Feed → Feed) (e : DistrictId) :
    (s.modFeed f g).district e = s.district e := rfl

@[simp] theorem State.modFeed_port (s : State) (f : FeedId) (g : Feed → Feed) (p' : Port) :
    (s.modFeed f g).port p' = s.port p' := rfl

@[simp] theorem State.modFeed_dset (s : State) (f : FeedId) (g : Feed → Feed) (e : DistrictId) :
    (s.modFeed f g).dset e = s.dset e := rfl

@[simp] theorem State.modFeed_fset (s : State) (f : FeedId) (g : Feed → Feed) (g' : FeedId) :
    (s.modFeed f g).fset g' = s.fset g' := rfl

@[simp] theorem State.modFeed_feedOfDistrict (s : State) (f : FeedId) (g : Feed → Feed) (e : DistrictId) :
    (s.modFeed f g).feedOfDistrict e = s.feedOfDistrict e := rfl

@[simp] theorem State.modFeed_districtsOf (s : State) (f : FeedId) (g : Feed → Feed) (g' : FeedId) :
    (s.modFeed f g).districtsOf g' = s.districtsOf g' := rfl

/-! ## modWalk -/

@[simp] theorem State.modWalk_pending (s : State) (f : FeedId) (g : Walk → Walk) : (s.modWalk f g).pending = s.pending := rfl

@[simp] theorem State.modWalk_inReset (s : State) (f : FeedId) (g : Walk → Walk) : (s.modWalk f g).inReset = s.inReset := rfl

@[simp] theorem State.modWalk_now (s : State) (f : FeedId) (g : Walk → Walk) : (s.modWalk f g).now = s.now := rfl

@[simp] theorem State.modWalk_autostart (s : State) (f : FeedId) (g : Walk → Walk) : (s.modWalk f g).autostart = s.autostart := rfl

@[simp] theorem State.modWalk_districts (s : State) (f : FeedId) (g : Walk → Walk) : (s.modWalk f g).districts = s.districts := rfl

@[simp] theorem State.modWalk_pendingImage (s : State) (f : FeedId) (g : Walk → Walk) : (s.modWalk f g).pendingImage = s.pendingImage := rfl

@[simp] theorem State.modWalk_activeImage (s : State) (f : FeedId) (g : Walk → Walk) : (s.modWalk f g).activeImage = s.activeImage := rfl

@[simp] theorem State.modWalk_chainApplyWaiting (s : State) (f : FeedId) (g : Walk → Walk) : (s.modWalk f g).chainApplyWaiting = s.chainApplyWaiting := rfl

@[simp] theorem State.modWalk_snapshot (s : State) (f : FeedId) (g : Walk → Walk) : (s.modWalk f g).snapshot = s.snapshot := rfl

@[simp] theorem State.modWalk_ring (s : State) (f : FeedId) (g : Walk → Walk) : (s.modWalk f g).ring = s.ring := rfl

@[simp] theorem State.modWalk_ports (s : State) (f : FeedId) (g : Walk → Walk) : (s.modWalk f g).ports = s.ports := rfl

@[simp] theorem State.modWalk_nv (s : State) (f : FeedId) (g : Walk → Walk) : (s.modWalk f g).nv = s.nv := rfl

@[simp] theorem State.modWalk_district (s : State) (f : FeedId) (g : Walk → Walk) (e : DistrictId) :
    (s.modWalk f g).district e = s.district e := rfl

@[simp] theorem State.modWalk_port (s : State) (f : FeedId) (g : Walk → Walk) (p' : Port) :
    (s.modWalk f g).port p' = s.port p' := rfl

@[simp] theorem State.modWalk_dset (s : State) (f : FeedId) (g : Walk → Walk) (e : DistrictId) :
    (s.modWalk f g).dset e = s.dset e := rfl

@[simp] theorem State.modWalk_fset (s : State) (f : FeedId) (g : Walk → Walk) (g' : FeedId) :
    (s.modWalk f g).fset g' = s.fset g' := rfl

@[simp] theorem State.modWalk_feedOfDistrict (s : State) (f : FeedId) (g : Walk → Walk) (e : DistrictId) :
    (s.modWalk f g).feedOfDistrict e = s.feedOfDistrict e := rfl

@[simp] theorem State.modWalk_districtsOf (s : State) (f : FeedId) (g : Walk → Walk) (g' : FeedId) :
    (s.modWalk f g).districtsOf g' = s.districtsOf g' := rfl

/-! ## modPort -/

@[simp] theorem State.modPort_pending (s : State) (p : Port) (g : PortRecord → PortRecord) : (s.modPort p g).pending = s.pending := rfl

@[simp] theorem State.modPort_inReset (s : State) (p : Port) (g : PortRecord → PortRecord) : (s.modPort p g).inReset = s.inReset := rfl

@[simp] theorem State.modPort_now (s : State) (p : Port) (g : PortRecord → PortRecord) : (s.modPort p g).now = s.now := rfl

@[simp] theorem State.modPort_autostart (s : State) (p : Port) (g : PortRecord → PortRecord) : (s.modPort p g).autostart = s.autostart := rfl

@[simp] theorem State.modPort_districts (s : State) (p : Port) (g : PortRecord → PortRecord) : (s.modPort p g).districts = s.districts := rfl

@[simp] theorem State.modPort_feeds (s : State) (p : Port) (g : PortRecord → PortRecord) : (s.modPort p g).feeds = s.feeds := rfl

@[simp] theorem State.modPort_pendingImage (s : State) (p : Port) (g : PortRecord → PortRecord) : (s.modPort p g).pendingImage = s.pendingImage := rfl

@[simp] theorem State.modPort_activeImage (s : State) (p : Port) (g : PortRecord → PortRecord) : (s.modPort p g).activeImage = s.activeImage := rfl

@[simp] theorem State.modPort_chainApplyWaiting (s : State) (p : Port) (g : PortRecord → PortRecord) : (s.modPort p g).chainApplyWaiting = s.chainApplyWaiting := rfl

@[simp] theorem State.modPort_snapshot (s : State) (p : Port) (g : PortRecord → PortRecord) : (s.modPort p g).snapshot = s.snapshot := rfl

@[simp] theorem State.modPort_ring (s : State) (p : Port) (g : PortRecord → PortRecord) : (s.modPort p g).ring = s.ring := rfl

@[simp] theorem State.modPort_nv (s : State) (p : Port) (g : PortRecord → PortRecord) : (s.modPort p g).nv = s.nv := rfl

@[simp] theorem State.modPort_district (s : State) (p : Port) (g : PortRecord → PortRecord) (e : DistrictId) :
    (s.modPort p g).district e = s.district e := rfl

@[simp] theorem State.modPort_feed (s : State) (p : Port) (g : PortRecord → PortRecord) (g' : FeedId) :
    (s.modPort p g).feed g' = s.feed g' := rfl

@[simp] theorem State.modPort_walk (s : State) (p : Port) (g : PortRecord → PortRecord) (g' : FeedId) :
    (s.modPort p g).walk g' = s.walk g' := rfl

@[simp] theorem State.modPort_dset (s : State) (p : Port) (g : PortRecord → PortRecord) (e : DistrictId) :
    (s.modPort p g).dset e = s.dset e := rfl

@[simp] theorem State.modPort_fset (s : State) (p : Port) (g : PortRecord → PortRecord) (g' : FeedId) :
    (s.modPort p g).fset g' = s.fset g' := rfl

@[simp] theorem State.modPort_feedOfDistrict (s : State) (p : Port) (g : PortRecord → PortRecord) (e : DistrictId) :
    (s.modPort p g).feedOfDistrict e = s.feedOfDistrict e := rfl

@[simp] theorem State.modPort_districtsOf (s : State) (p : Port) (g : PortRecord → PortRecord) (g' : FeedId) :
    (s.modPort p g).districtsOf g' = s.districtsOf g' := rfl

/-! ## post -/

@[simp] theorem State.post_pending (s : State) (ev : Event) : (s.post ev).pending = s.pending := rfl

@[simp] theorem State.post_inReset (s : State) (ev : Event) : (s.post ev).inReset = s.inReset := rfl

@[simp] theorem State.post_now (s : State) (ev : Event) : (s.post ev).now = s.now := rfl

@[simp] theorem State.post_autostart (s : State) (ev : Event) : (s.post ev).autostart = s.autostart := rfl

@[simp] theorem State.post_districts (s : State) (ev : Event) : (s.post ev).districts = s.districts := rfl

@[simp] theorem State.post_feeds (s : State) (ev : Event) : (s.post ev).feeds = s.feeds := rfl

@[simp] theorem State.post_pendingImage (s : State) (ev : Event) : (s.post ev).pendingImage = s.pendingImage := rfl

@[simp] theorem State.post_activeImage (s : State) (ev : Event) : (s.post ev).activeImage = s.activeImage := rfl

@[simp] theorem State.post_chainApplyWaiting (s : State) (ev : Event) : (s.post ev).chainApplyWaiting = s.chainApplyWaiting := rfl

@[simp] theorem State.post_snapshot (s : State) (ev : Event) : (s.post ev).snapshot = s.snapshot := rfl

@[simp] theorem State.post_nv (s : State) (ev : Event) : (s.post ev).nv = s.nv := rfl

@[simp] theorem State.post_district (s : State) (ev : Event) (e : DistrictId) :
    (s.post ev).district e = s.district e := rfl

@[simp] theorem State.post_feed (s : State) (ev : Event) (g' : FeedId) :
    (s.post ev).feed g' = s.feed g' := rfl

@[simp] theorem State.post_walk (s : State) (ev : Event) (g' : FeedId) :
    (s.post ev).walk g' = s.walk g' := rfl

@[simp] theorem State.post_dset (s : State) (ev : Event) (e : DistrictId) :
    (s.post ev).dset e = s.dset e := rfl

@[simp] theorem State.post_fset (s : State) (ev : Event) (g' : FeedId) :
    (s.post ev).fset g' = s.fset g' := rfl

@[simp] theorem State.post_feedOfDistrict (s : State) (ev : Event) (e : DistrictId) :
    (s.post ev).feedOfDistrict e = s.feedOfDistrict e := rfl

@[simp] theorem State.post_districtsOf (s : State) (ev : Event) (g' : FeedId) :
    (s.post ev).districtsOf g' = s.districtsOf g' := rfl

/-! ## postDistrict -/

@[simp] theorem State.postDistrict_pending (s : State) (kind : EventKind) (d : DistrictId) (detail value : Nat) : (s.postDistrict kind d detail value).pending = s.pending := rfl

@[simp] theorem State.postDistrict_inReset (s : State) (kind : EventKind) (d : DistrictId) (detail value : Nat) : (s.postDistrict kind d detail value).inReset = s.inReset := rfl

@[simp] theorem State.postDistrict_now (s : State) (kind : EventKind) (d : DistrictId) (detail value : Nat) : (s.postDistrict kind d detail value).now = s.now := rfl

@[simp] theorem State.postDistrict_autostart (s : State) (kind : EventKind) (d : DistrictId) (detail value : Nat) : (s.postDistrict kind d detail value).autostart = s.autostart := rfl

@[simp] theorem State.postDistrict_districts (s : State) (kind : EventKind) (d : DistrictId) (detail value : Nat) : (s.postDistrict kind d detail value).districts = s.districts := rfl

@[simp] theorem State.postDistrict_feeds (s : State) (kind : EventKind) (d : DistrictId) (detail value : Nat) : (s.postDistrict kind d detail value).feeds = s.feeds := rfl

@[simp] theorem State.postDistrict_pendingImage (s : State) (kind : EventKind) (d : DistrictId) (detail value : Nat) : (s.postDistrict kind d detail value).pendingImage = s.pendingImage := rfl

@[simp] theorem State.postDistrict_activeImage (s : State) (kind : EventKind) (d : DistrictId) (detail value : Nat) : (s.postDistrict kind d detail value).activeImage = s.activeImage := rfl

@[simp] theorem State.postDistrict_chainApplyWaiting (s : State) (kind : EventKind) (d : DistrictId) (detail value : Nat) : (s.postDistrict kind d detail value).chainApplyWaiting = s.chainApplyWaiting := rfl

@[simp] theorem State.postDistrict_snapshot (s : State) (kind : EventKind) (d : DistrictId) (detail value : Nat) : (s.postDistrict kind d detail value).snapshot = s.snapshot := rfl

@[simp] theorem State.postDistrict_nv (s : State) (kind : EventKind) (d : DistrictId) (detail value : Nat) : (s.postDistrict kind d detail value).nv = s.nv := rfl

@[simp] theorem State.postDistrict_district (s : State) (kind : EventKind) (d : DistrictId) (detail value : Nat) (e : DistrictId) :
    (s.postDistrict kind d detail value).district e = s.district e := rfl

@[simp] theorem State.postDistrict_feed (s : State) (kind : EventKind) (d : DistrictId) (detail value : Nat) (g' : FeedId) :
    (s.postDistrict kind d detail value).feed g' = s.feed g' := rfl

@[simp] theorem State.postDistrict_walk (s : State) (kind : EventKind) (d : DistrictId) (detail value : Nat) (g' : FeedId) :
    (s.postDistrict kind d detail value).walk g' = s.walk g' := rfl

@[simp] theorem State.postDistrict_dset (s : State) (kind : EventKind) (d : DistrictId) (detail value : Nat) (e : DistrictId) :
    (s.postDistrict kind d detail value).dset e = s.dset e := rfl

@[simp] theorem State.postDistrict_fset (s : State) (kind : EventKind) (d : DistrictId) (detail value : Nat) (g' : FeedId) :
    (s.postDistrict kind d detail value).fset g' = s.fset g' := rfl

@[simp] theorem State.postDistrict_feedOfDistrict (s : State) (kind : EventKind) (d : DistrictId) (detail value : Nat) (e : DistrictId) :
    (s.postDistrict kind d detail value).feedOfDistrict e = s.feedOfDistrict e := rfl

@[simp] theorem State.postDistrict_districtsOf (s : State) (kind : EventKind) (d : DistrictId) (detail value : Nat) (g' : FeedId) :
    (s.postDistrict kind d detail value).districtsOf g' = s.districtsOf g' := rfl

/-! ## respond -/

@[simp] theorem State.respond_pending (s : State) (p : Port) (cmd : Byte) (reply : Reply) : (s.respond p cmd reply).pending = s.pending := rfl

@[simp] theorem State.respond_inReset (s : State) (p : Port) (cmd : Byte) (reply : Reply) : (s.respond p cmd reply).inReset = s.inReset := rfl

@[simp] theorem State.respond_now (s : State) (p : Port) (cmd : Byte) (reply : Reply) : (s.respond p cmd reply).now = s.now := rfl

@[simp] theorem State.respond_autostart (s : State) (p : Port) (cmd : Byte) (reply : Reply) : (s.respond p cmd reply).autostart = s.autostart := rfl

@[simp] theorem State.respond_districts (s : State) (p : Port) (cmd : Byte) (reply : Reply) : (s.respond p cmd reply).districts = s.districts := rfl

@[simp] theorem State.respond_feeds (s : State) (p : Port) (cmd : Byte) (reply : Reply) : (s.respond p cmd reply).feeds = s.feeds := rfl

@[simp] theorem State.respond_pendingImage (s : State) (p : Port) (cmd : Byte) (reply : Reply) : (s.respond p cmd reply).pendingImage = s.pendingImage := rfl

@[simp] theorem State.respond_activeImage (s : State) (p : Port) (cmd : Byte) (reply : Reply) : (s.respond p cmd reply).activeImage = s.activeImage := rfl

@[simp] theorem State.respond_chainApplyWaiting (s : State) (p : Port) (cmd : Byte) (reply : Reply) : (s.respond p cmd reply).chainApplyWaiting = s.chainApplyWaiting := rfl

@[simp] theorem State.respond_snapshot (s : State) (p : Port) (cmd : Byte) (reply : Reply) : (s.respond p cmd reply).snapshot = s.snapshot := rfl

@[simp] theorem State.respond_ring (s : State) (p : Port) (cmd : Byte) (reply : Reply) : (s.respond p cmd reply).ring = s.ring := rfl

@[simp] theorem State.respond_nv (s : State) (p : Port) (cmd : Byte) (reply : Reply) : (s.respond p cmd reply).nv = s.nv := rfl

@[simp] theorem State.respond_district (s : State) (p : Port) (cmd : Byte) (reply : Reply) (e : DistrictId) :
    (s.respond p cmd reply).district e = s.district e := rfl

@[simp] theorem State.respond_feed (s : State) (p : Port) (cmd : Byte) (reply : Reply) (g' : FeedId) :
    (s.respond p cmd reply).feed g' = s.feed g' := rfl

@[simp] theorem State.respond_walk (s : State) (p : Port) (cmd : Byte) (reply : Reply) (g' : FeedId) :
    (s.respond p cmd reply).walk g' = s.walk g' := rfl

@[simp] theorem State.respond_dset (s : State) (p : Port) (cmd : Byte) (reply : Reply) (e : DistrictId) :
    (s.respond p cmd reply).dset e = s.dset e := rfl

@[simp] theorem State.respond_fset (s : State) (p : Port) (cmd : Byte) (reply : Reply) (g' : FeedId) :
    (s.respond p cmd reply).fset g' = s.fset g' := rfl

@[simp] theorem State.respond_feedOfDistrict (s : State) (p : Port) (cmd : Byte) (reply : Reply) (e : DistrictId) :
    (s.respond p cmd reply).feedOfDistrict e = s.feedOfDistrict e := rfl

@[simp] theorem State.respond_districtsOf (s : State) (p : Port) (cmd : Byte) (reply : Reply) (g' : FeedId) :
    (s.respond p cmd reply).districtsOf g' = s.districtsOf g' := rfl

/-! ## Views of what was just written -/

/-- A district's record after any district's record was replaced. -/
theorem State.district_setDistrict (s : State) (d e : DistrictId) (r : District) :
    (s.setDistrict d r).district e = if e = d then r else s.district e := by
  by_cases h : e = d
  · subst h; simp [State.district, State.setDistrict]
  · have h' : d.val ≠ e.val := fun h'' => h (Fin.ext h''.symm)
    simp [State.district, State.setDistrict, h, Vector.getElem_set_ne _ _ h']

@[simp] theorem State.district_setDistrict_same (s : State) (d : DistrictId) (r : District) :
    (s.setDistrict d r).district d = r := by simp [State.district_setDistrict]

theorem State.district_setDistrict_of_ne {d e : DistrictId} (h : e ≠ d) (s : State) (r : District) :
    (s.setDistrict d r).district e = s.district e := by simp [State.district_setDistrict, h]

/-- A district's record after any district's record was changed. -/
theorem State.district_modDistrict (s : State) (d e : DistrictId) (g : District → District) :
    (s.modDistrict d g).district e = if e = d then g (s.district d) else s.district e :=
  State.district_setDistrict s d e _

@[simp] theorem State.district_modDistrict_same (s : State) (d : DistrictId) (g : District → District) :
    (s.modDistrict d g).district d = g (s.district d) := by simp [State.district_modDistrict]

theorem State.district_modDistrict_of_ne {d e : DistrictId} (h : e ≠ d) (s : State) (g : District → District) :
    (s.modDistrict d g).district e = s.district e := by simp [State.district_modDistrict, h]

/-- A feed's record after any feed's record was replaced. -/
theorem State.feed_setFeed (s : State) (f e : FeedId) (x : Feed) :
    (s.setFeed f x).feed e = if e = f then x else s.feed e := by
  by_cases h : e = f
  · subst h; simp [State.feed, State.setFeed]
  · have h' : f.val ≠ e.val := fun h'' => h (Fin.ext h''.symm)
    simp [State.feed, State.setFeed, h, Vector.getElem_set_ne _ _ h']

/-- A feed's record after any feed's record was changed. -/
theorem State.feed_modFeed (s : State) (f e : FeedId) (g : Feed → Feed) :
    (s.modFeed f g).feed e = if e = f then g (s.feed f) else s.feed e :=
  State.feed_setFeed s f e _

@[simp] theorem State.feed_modFeed_same (s : State) (f : FeedId) (g : Feed → Feed) :
    (s.modFeed f g).feed f = g (s.feed f) := by simp [State.feed_modFeed]

theorem State.feed_modFeed_of_ne {f e : FeedId} (h : e ≠ f) (s : State) (g : Feed → Feed) :
    (s.modFeed f g).feed e = s.feed e := by simp [State.feed_modFeed, h]

/-- A feed's record after a change of any walk context. -/
theorem State.feed_modWalk (s : State) (f e : FeedId) (g : Walk → Walk) :
    (s.modWalk f g).feed e = if e = f then { s.feed f with walk := g (s.feed f).walk } else s.feed e :=
  State.feed_modFeed s f e _

@[simp] theorem State.feed_modWalk_same (s : State) (f : FeedId) (g : Walk → Walk) :
    (s.modWalk f g).feed f = { s.feed f with walk := g (s.feed f).walk } := by simp [State.feed_modWalk]

@[simp] theorem State.walk_modWalk_same (s : State) (f : FeedId) (g : Walk → Walk) :
    (s.modWalk f g).walk f = g (s.walk f) := by simp [State.walk]

/-- A port's record after any port's record was changed. -/
theorem State.port_modPort (s : State) (p q : Port) (g : PortRecord → PortRecord) :
    (s.modPort p g).port q = if q = p then g (s.port p) else s.port q := by
  cases p <;> cases q <;> rfl

@[simp] theorem State.port_modPort_same (s : State) (p : Port) (g : PortRecord → PortRecord) :
    (s.modPort p g).port p = g (s.port p) := by cases p <;> rfl

/-- A port's record after every record was changed the same way. -/
@[simp] theorem PortTable.get_map (t : PortTable) (g : PortRecord → PortRecord) (p : Port) :
    (t.map g).get p = g (t.get p) := by cases p <;> rfl

/-- A port after an append: its own counts follow (R166). -/
@[simp] theorem State.port_post (s : State) (ev : Event) (p : Port) :
    (s.post ev).port p = (s.port p).onAppend := by cases p <;> rfl

@[simp] theorem State.ring_post (s : State) (ev : Event) :
    (s.post ev).ring = s.ring.append (ev.entry s.now) := rfl

/-- Writing back the record a district holds changes nothing. -/
@[simp] theorem State.setDistrict_district (s : State) (d : DistrictId) : s.setDistrict d (s.district d) = s := by
  simp [State.setDistrict, State.district]

/-! ## A district record that changes state (R2, R6, R31) -/

@[simp] theorem District.enter_state (r : District) (st : DState) : (r.enter st).state = st := rfl

@[simp] theorem District.enter_switch (r : District) (st : DState) :
    (r.enter st).switch = if st.energised then .closed else .opened := rfl

@[simp] theorem District.enter_polarity (r : District) (st : DState) : (r.enter st).polarity = r.polarity := by
  unfold District.enter; split <;> rfl

@[simp] theorem District.enter_holds (r : District) (st : DState) : (r.enter st).holds = r.holds := by
  unfold District.enter; split <;> rfl

@[simp] theorem District.enter_mode (r : District) (st : DState) : (r.enter st).mode = r.mode := by
  unfold District.enter; split <;> rfl

@[simp] theorem District.enter_retry (r : District) (st : DState) : (r.enter st).retry = r.retry := by
  unfold District.enter; split <;> rfl

@[simp] theorem District.enter_suspect (r : District) (st : DState) : (r.enter st).suspect = r.suspect := by
  unfold District.enter; split <;> rfl

@[simp] theorem District.enter_lastCause (r : District) (st : DState) : (r.enter st).lastCause = r.lastCause := by
  unfold District.enter; split <;> rfl

@[simp] theorem District.enter_seen (r : District) (st : DState) : (r.enter st).seen = r.seen := by
  unfold District.enter; split <;> rfl

@[simp] theorem District.enter_lastSoak (r : District) (st : DState) : (r.enter st).lastSoak = r.lastSoak := by
  unfold District.enter; split <;> rfl

@[simp] theorem District.enter_applyDeferred (r : District) (st : DState) : (r.enter st).applyDeferred = r.applyDeferred := by
  unfold District.enter; split <;> rfl

@[simp] theorem District.enter_stats (r : District) (st : DState) : (r.enter st).stats = r.stats := by
  unfold District.enter; split <;> rfl

@[simp] theorem District.enter_acct (r : District) (st : DState) : (r.enter st).acct = r.acct := by
  unfold District.enter; split <;> rfl

@[simp] theorem District.enter_snap (r : District) (st : DState) : (r.enter st).snap = r.snap := by
  unfold District.enter; split <;> rfl

@[simp] theorem District.enter_soak (r : District) (st : DState) :
    (r.enter st).soak = if st = .soaking then r.soak else none := by
  unfold District.enter; split <;> rfl

@[simp] theorem District.enter_deferral (r : District) (st : DState) :
    (r.enter st).deferral = if st = .live then r.deferral else none := by
  unfold District.enter; split <;> rfl

@[simp] theorem District.enter_preSwap (r : District) (st : DState) :
    (r.enter st).preSwap = if st.isSwap = true then r.preSwap else none := by
  unfold District.enter; split <;> rfl

@[simp] theorem District.enter_checkCount (r : District) (st : DState) :
    (r.enter st).checkCount = if st = .swapCheck then r.checkCount else none := by
  unfold District.enter; split <;> rfl

@[simp] theorem District.enter_coolDown (r : District) (st : DState) :
    (r.enter st).coolDown = if st = .tripped then r.coolDown else none := by
  unfold District.enter; split <;> rfl

@[simp] theorem District.enter_settle (r : District) (st : DState) :
    (r.enter st).settle = if st.settles = true then r.settle else none := by
  unfold District.enter; split <;> rfl

@[simp] theorem District.enter_deadTime (r : District) (st : DState) :
    (r.enter st).deadTime = if st = .swapping then r.deadTime else none := by
  unfold District.enter; split <;> rfl

@[simp] theorem District.enter_grace (r : District) (st : DState) :
    (r.enter st).grace = if st = .live then r.grace else false := by
  unfold District.enter; split <;> rfl

@[simp] theorem District.enter_window (r : District) (st : DState) :
    (r.enter st).window = if r.switch = .closed ∧ st.energised = false then clearedWindow else r.window := by
  unfold District.enter; split <;> simp_all [District.clearWindow]

@[simp] theorem District.enter_sum (r : District) (st : DState) :
    (r.enter st).sum = if r.switch = .closed ∧ st.energised = false then 0 else r.sum := by
  unfold District.enter; split <;> simp_all [District.clearWindow]

@[simp] theorem District.enter_fill (r : District) (st : DState) :
    (r.enter st).fill = if r.switch = .closed ∧ st.energised = false then 0 else r.fill := by
  unfold District.enter; split <;> simp_all [District.clearWindow]

@[simp] theorem District.enter_occupancy (r : District) (st : DState) :
    (r.enter st).occupancy = if r.switch = .closed ∧ st.energised = false then .unknown else r.occupancy := by
  unfold District.enter; split <;> simp_all [District.clearWindow]

end Sys2Proof.Machine
end

