-- ==== Sys2Proof/Laws/Ops.lean ====
section
/-! SUPPORT. Laws/Ops.lean: once each, what the shared operations of Machine/Ops.lean do: serving a request, being
in reset, replacing a set of an image, appending an event, starting and recording a soak. -/

namespace Sys2Proof.Machine

/-! ## In reset and running (R172) -/

theorem State.whenRunning_of_running {s : State} (h : s.inReset = false) (act : State → State) :
    s.whenRunning act = act s := by simp [State.whenRunning, h]

theorem State.whenRunning_of_inReset {s : State} (h : s.inReset = true) (act : State → State) :
    s.whenRunning act = s := by simp [State.whenRunning, h]

/-! ## Serving a request (R156, R159) -/

/-- A role that permits a command is not DISABLED. -/
theorem Role.ne_disabled_of_permits {r : Role} {c : Command} (h : r.permits c = true) : r ≠ .disabled := by
  rintro rfl
  simp [Role.permits] at h

/-- A port that is not BUSY is engaged with nothing. -/
theorem PortRecord.engaged_of_not_busy {q : PortRecord} (h : q.reception ≠ .busy) (i : Instr) :
    q.engaged i = false := by simp [PortRecord.engaged, h]

/-- A port is not engaged against the request it has passed on. -/
theorem PortRecord.engaged_of_waiting {q : PortRecord} {i : Instr} (h : q.request = some i) :
    q.engaged i = false := by simp [PortRecord.engaged, h]

/-- At a port that is not BUSY there is no request to take. -/
theorem State.takeRequest_of_not_busy {s : State} {p : Port} (h : (s.port p).reception ≠ .busy) :
    s.takeRequest p = s := by simp [State.takeRequest, h]

/-- The port whose request has been taken hunts until the response takes it to BUSY again. -/
theorem State.takeRequest_of_busy {s : State} {p : Port} (h : (s.port p).reception = .busy) :
    s.takeRequest p = s.modPort p (fun q => { q with reception := .hunt, request := none }) := by
  simp [State.takeRequest, h]

@[simp] theorem State.takeRequest_role (s : State) (p : Port) : ((s.takeRequest p).port p).role = (s.port p).role := by
  unfold State.takeRequest
  split <;> simp

/-- What a request's row can do (R156, R159): in reset, or at a DISABLED port, nothing; at a port engaged with another
exchange the disturbed note is set; otherwise REFUSED-ROLE, or the owner's effect and its response. -/
theorem State.serve_eq {i : Instr} {p : Port} {c : Command} {ps : List Byte} (he : encodeRequest i = some (p, c, ps))
    (s : State) (body : State → State × Reply) :
    s.serve i body =
      if s.inReset then s
      else if (s.port p).role = .disabled then s
      else if (s.port p).engaged i then s.modPort p (fun q => { q with disturbed := true })
      else if (s.port p).role.permits c then
        ((body (s.takeRequest p)).1).respond p c.code (body (s.takeRequest p)).2
      else (s.takeRequest p).respond p c.code { status := .refusedRole, data := [] } := by
  simp [State.serve, he, State.whenRunning]

/-- A request its port may send has its owner's effect and its response. -/
theorem State.serve_of_permits {i : Instr} {p : Port} {c : Command} {ps : List Byte}
    (he : encodeRequest i = some (p, c, ps)) {s : State} (h : s.inReset = false)
    (hp : (s.port p).role.permits c = true) (hb : (s.port p).reception ≠ .busy) (body : State → State × Reply) :
    s.serve i body = ((body s).1).respond p c.code (body s).2 := by
  simp [State.serve_eq he, h, hp, PortRecord.engaged_of_not_busy hb, Role.ne_disabled_of_permits hp,
    State.takeRequest_of_not_busy hb]

/-- A request the role of an enabled port does not permit is answered REFUSED-ROLE and has no other effect. -/
theorem State.serve_of_refused {i : Instr} {p : Port} {c : Command} {ps : List Byte}
    (he : encodeRequest i = some (p, c, ps)) {s : State} (h : s.inReset = false)
    (hd : (s.port p).role ≠ .disabled) (hp : (s.port p).role.permits c = false)
    (hb : (s.port p).reception ≠ .busy) (body : State → State × Reply) :
    s.serve i body = s.respond p c.code { status := .refusedRole, data := [] } := by
  simp [State.serve_eq he, h, hp, PortRecord.engaged_of_not_busy hb, hd, State.takeRequest_of_not_busy hb]

/-- A port engaged with another exchange takes no second request: it only notes the disturbance (R158, R159). -/
theorem State.serve_of_engaged {i : Instr} {p : Port} {c : Command} {ps : List Byte}
    (he : encodeRequest i = some (p, c, ps)) {s : State} (h : s.inReset = false)
    (hd : (s.port p).role ≠ .disabled) (hb : (s.port p).engaged i = true) (body : State → State × Reply) :
    s.serve i body = s.modPort p (fun q => { q with disturbed := true }) := by
  simp [State.serve_eq he, h, hb, hd]

/-- A DISABLED port takes no request. -/
theorem State.serve_of_disabled {i : Instr} {p : Port} {c : Command} {ps : List Byte}
    (he : encodeRequest i = some (p, c, ps)) {s : State} (hd : (s.port p).role = .disabled)
    (body : State → State × Reply) : s.serve i body = s := by
  by_cases h : s.inReset = true <;> simp [State.serve_eq he, h, hd]

/-- Nothing is served in reset. -/
theorem State.serve_of_inReset {s : State} (h : s.inReset = true) (i : Instr) (body : State → State × Reply) :
    s.serve i body = s := by
  unfold State.serve
  split
  · rfl
  · exact State.whenRunning_of_inReset h _

/-- What a response leaves at its port. -/
theorem State.port_respond (s : State) (p q : Port) (cmd : Byte) (reply : Reply) :
    (s.respond p cmd reply).port q =
      if q = p then
        { s.port p with
          reception := .busy, interByte := none, request := none
          response := some { cmd := cmd, status := reply.status, data := reply.data } }
      else s.port q := State.port_modPort s p q _

/-! ## Images (R144) -/

theorem Image.district_withDistrict (i : Image) (d e : DistrictId) (ds : DistrictSet) :
    (i.withDistrict d ds).district e = if e = d then ds else i.district e := by
  by_cases h : e = d
  · subst h; simp [Image.district, Image.withDistrict]
  · have h' : d.val ≠ e.val := fun h'' => h (Fin.ext h''.symm)
    simp [Image.district, Image.withDistrict, h, Vector.getElem_set_ne _ _ h']

theorem Image.feed_withFeed (i : Image) (f e : FeedId) (fs : FeedSet) :
    (i.withFeed f fs).feed e = if e = f then fs else i.feed e := by
  by_cases h : e = f
  · subst h; simp [Image.feed, Image.withFeed]
  · have h' : f.val ≠ e.val := fun h'' => h (Fin.ext h''.symm)
    simp [Image.feed, Image.withFeed, h, Vector.getElem_set_ne _ _ h']

theorem Image.entry_withEntry (i : Image) (d e : EntryId) (c : ChainEntry) :
    (i.withEntry d c).entry e = if e = d then c else i.entry e := by
  by_cases h : e = d
  · subst h; simp [Image.entry, Image.withEntry]
  · have h' : d.val ≠ e.val := fun h'' => h (Fin.ext h''.symm)
    simp [Image.entry, Image.withEntry, h, Vector.getElem_set_ne _ _ h']

@[simp] theorem Image.feed_withDistrict (i : Image) (d : DistrictId) (ds : DistrictSet) (f : FeedId) :
    (i.withDistrict d ds).feed f = i.feed f := rfl

@[simp] theorem Image.entry_withDistrict (i : Image) (d : DistrictId) (ds : DistrictSet) (e : EntryId) :
    (i.withDistrict d ds).entry e = i.entry e := rfl

@[simp] theorem Image.district_withFeed (i : Image) (f : FeedId) (fs : FeedSet) (d : DistrictId) :
    (i.withFeed f fs).district d = i.district d := rfl

@[simp] theorem Image.entry_withFeed (i : Image) (f : FeedId) (fs : FeedSet) (e : EntryId) :
    (i.withFeed f fs).entry e = i.entry e := rfl

@[simp] theorem Image.district_withEntry (i : Image) (e : EntryId) (c : ChainEntry) (d : DistrictId) :
    (i.withEntry e c).district d = i.district d := rfl

@[simp] theorem Image.feed_withEntry (i : Image) (e : EntryId) (c : ChainEntry) (f : FeedId) :
    (i.withEntry e c).feed f = i.feed f := rfl

/-! ## Events (R165, R166) -/

/-- The entry an append wrote stands at the old write position. -/
theorem Ring.append_at_write (g : Ring) (e : Entry) :
    (g.append e).entries[g.write.val]'g.write.isLt = e := by simp [Ring.append]

/-- Every other position of the ring is as before an append. -/
theorem Ring.append_elsewhere (g : Ring) (e : Entry) (i : RingPos) (h : i ≠ g.write) :
    (g.append e).entries[i.val]'i.isLt = g.entries[i.val]'i.isLt := by
  have h' : g.write.val ≠ i.val := fun h'' => h (Fin.ext h''.symm)
  simp [Ring.append, Vector.getElem_set_ne _ _ h']

@[simp] theorem Ring.append_write (g : Ring) (e : Entry) : (g.append e).write = g.write + 1 := rfl

/-- An append leaves a DISABLED port as it is. -/
theorem PortRecord.onAppend_of_disabled {q : PortRecord} (h : q.role = .disabled) : q.onAppend = q := by
  simp [PortRecord.onAppend, h]

/-- What an append does not touch at a port. -/
theorem PortRecord.onAppend_frame (q : PortRecord) :
    q.onAppend.role = q.role ∧ q.onAppend.reception = q.reception ∧ q.onAppend.interByte = q.interByte ∧
      q.onAppend.disturbed = q.disturbed ∧ q.onAppend.badFrames = q.badFrames ∧ q.onAppend.trigger = q.trigger ∧
      q.onAppend.linger = q.linger ∧ q.onAppend.lingerExpired = q.lingerExpired ∧
      q.onAppend.request = q.request ∧ q.onAppend.response = q.response := by
  unfold PortRecord.onAppend
  split
  · simp
  · split <;> simp

/-! ## Soaks (R55, R67, R75) -/

@[simp] theorem District.startSoak_state (r : District) (o : SoakOrigin) (c : Nat) :
    (r.startSoak o c).state = .soaking := rfl

@[simp] theorem District.startSoak_switch (r : District) (o : SoakOrigin) (c : Nat) :
    (r.startSoak o c).switch = .closed := rfl

@[simp] theorem District.startSoak_soak (r : District) (o : SoakOrigin) (c : Nat) :
    (r.startSoak o c).soak = some { origin := o, n := 0, e := 0, cost := c } := rfl

@[simp] theorem District.startSoak_retry (r : District) (o : SoakOrigin) (c : Nat) :
    (r.startSoak o c).retry = r.retry := by simp [District.startSoak]

@[simp] theorem District.granted_retry (r : District) (c limit : Nat) :
    (r.granted c limit).retry = min (r.retry + 1) limit := rfl

@[simp] theorem District.granted_state (r : District) (c limit : Nat) : (r.granted c limit).state = .soaking := rfl

@[simp] theorem District.granted_soak (r : District) (c limit : Nat) :
    (r.granted c limit).soak = some { origin := .individual, n := 0, e := 0, cost := c } := rfl

/-- Recording a soak's end writes the last soak figures alone. -/
theorem District.recordSoak_eq (r : District) (o : SoakOutcome) :
    r.recordSoak o =
      { r with lastSoak := (r.soak.map (fun c => { e := c.e, used := c.n, outcome := o })).or r.lastSoak } := by
  obtain ⟨_, _, _, _, _, _, _, _, _, _, _, _, _, soak, _⟩ := r
  cases soak <;> rfl

end Sys2Proof.Machine
end

