-- ==== Sys2Proof/Laws/Arbiter.lean ====
section
/-! SUPPORT. Laws/Arbiter.lean: what the Feed Arbiter's operations can do, once each. -/

namespace Sys2Proof.Machine

/-! ## Frames -/

/-- From `s` to `t` only district records and feed records differ. -/
structure OnlyRecords (s t : State) : Prop where
  pending : t.pending = s.pending
  inReset : t.inReset = s.inReset
  now : t.now = s.now
  autostart : t.autostart = s.autostart
  pendingImage : t.pendingImage = s.pendingImage
  activeImage : t.activeImage = s.activeImage
  chainApplyWaiting : t.chainApplyWaiting = s.chainApplyWaiting
  snapshot : t.snapshot = s.snapshot
  ring : t.ring = s.ring
  ports : t.ports = s.ports
  nv : t.nv = s.nv

theorem OnlyRecords.refl (s : State) : OnlyRecords s s := ⟨rfl, rfl, rfl, rfl, rfl, rfl, rfl, rfl, rfl, rfl, rfl⟩

theorem OnlyRecords.trans {s t u : State} (h : OnlyRecords s t) (k : OnlyRecords t u) : OnlyRecords s u :=
  ⟨k.1.trans h.1, k.2.trans h.2, k.3.trans h.3, k.4.trans h.4, k.5.trans h.5, k.6.trans h.6, k.7.trans h.7,
   k.8.trans h.8, k.9.trans h.9, k.10.trans h.10, k.11.trans h.11⟩

theorem OnlyRecords.dset {s t : State} (h : OnlyRecords s t) (d : DistrictId) : t.dset d = s.dset d := by
  simp [State.dset, h.activeImage]

theorem OnlyRecords.fset {s t : State} (h : OnlyRecords s t) (f : FeedId) : t.fset f = s.fset f := by
  simp [State.fset, h.activeImage]

theorem OnlyRecords.modDistrict (s : State) (d : DistrictId) (g : District → District) :
    OnlyRecords s (s.modDistrict d g) := ⟨rfl, rfl, rfl, rfl, rfl, rfl, rfl, rfl, rfl, rfl, rfl⟩

theorem OnlyRecords.modFeed (s : State) (f : FeedId) (g : Feed → Feed) : OnlyRecords s (s.modFeed f g) :=
  ⟨rfl, rfl, rfl, rfl, rfl, rfl, rfl, rfl, rfl, rfl, rfl⟩

/-! ## The grant rule (R111) -/

/-- A run of the grant rule changes only feed `f`'s queue, pool and slots, and districts that were QUEUED, each by
a grant (R55, R111). -/
structure Grants (f : FeedId) (s t : State) : Prop where
  records : OnlyRecords s t
  otherFeeds : ∀ g, g ≠ f → t.feed g = s.feed g
  thisFeed : t.feed f =
    { s.feed f with queue := (t.feed f).queue, pool := (t.feed f).pool, slots := (t.feed f).slots }
  districts : ∀ d, t.district d = s.district d ∨
    ((s.district d).state = .queued ∧ (s.feed f).state = .up ∧
      t.district d = (s.district d).granted (s.cost f d) (s.dset d).r)

theorem Grants.refl (f : FeedId) (s : State) : Grants f s s :=
  ⟨OnlyRecords.refl s, fun _ _ => rfl, rfl, fun _ => .inl rfl⟩

/-- A district that is not QUEUED is not touched by a run of the grant rule. -/
theorem Grants.bystander {f : FeedId} {s t : State} (h : Grants f s t) {d : DistrictId}
    (hd : (s.district d).state ≠ .queued) : t.district d = s.district d :=
  (h.districts d).resolve_right (fun k => hd k.1)

theorem Grants.state {f : FeedId} {s t : State} (h : Grants f s t) (g : FeedId) :
    (t.feed g).state = (s.feed g).state := by
  by_cases hg : g = f
  · subst hg; rw [h.thisFeed]
  · rw [h.otherFeeds g hg]

/-- One grant (R55, R111 step 3). -/
theorem State.grantHead_grants (s : State) (f : FeedId) (h : DistrictId) (rest : List DistrictId)
    (hc : s.canGrant f h = true) : Grants f s (s.grantHead f h rest) := by
  simp only [State.canGrant, Bool.and_eq_true, decide_eq_true_eq] at hc
  refine ⟨⟨rfl, rfl, rfl, rfl, rfl, rfl, rfl, rfl, rfl, rfl, rfl⟩, fun g hg => ?_, ?_, fun d => ?_⟩
  · simp [State.grantHead, State.feed_modFeed, hg]
  · simp [State.grantHead]
  · by_cases hd : d = h
    · subst hd
      exact .inr ⟨hc.1.1.2, hc.1.1.1.1, by simp [State.grantHead]⟩
    · exact .inl (by simp [State.grantHead, State.district_modDistrict, hd])

theorem Grants.trans {f : FeedId} {s t u : State} (h : Grants f s t) (k : Grants f t u) : Grants f s u := by
  refine ⟨h.records.trans k.records, fun g hg => (k.otherFeeds g hg).trans (h.otherFeeds g hg), ?_, fun d => ?_⟩
  · rw [k.thisFeed, h.thisFeed]
  · rcases h.districts d with e | ⟨hq, hu, e⟩
    · rcases k.districts d with e' | ⟨hq', hu', e'⟩
      · exact .inl (e'.trans e)
      · refine .inr ⟨by rw [← e]; exact hq', by rw [← h.state f]; exact hu', ?_⟩
        rw [e', e, h.records.dset]
        simp [State.cost, h.records.dset, h.records.fset]
    · refine .inr ⟨hq, hu, ?_⟩
      rw [k.bystander (by rw [e]; simp), e]

theorem grantLoop_grants (n : Nat) (f : FeedId) (s : State) : Grants f s (grantLoop n f s) := by
  induction n generalizing s with
  | zero => exact Grants.refl f s
  | succ n ih =>
    unfold grantLoop
    split
    · exact Grants.refl f s
    · split
      · exact (s.grantHead_grants f _ _ ‹_›).trans (ih _)
      · exact Grants.refl f s

/-- What a run of the grant rule can do. -/
theorem State.runGrantRule_grants (s : State) (f : FeedId) : Grants f s (s.runGrantRule f) :=
  grantLoop_grants _ f s

/-- The grant rule grants nothing on a feed that is not UP (R111 step 1). -/
theorem State.runGrantRule_of_not_up {s : State} {f : FeedId} (h : (s.feed f).state ≠ .up) :
    s.runGrantRule f = s := by
  unfold State.runGrantRule
  cases hq : (s.feed f).queue with
  | nil => rfl
  | cons d rest => simp [grantLoop, hq, State.canGrant, h]

/-! ## Joins and leaves (R53, R108) -/

/-- A join to a feed that is not UP: the district is QUEUED at the tail, and nothing else happens (R49, R53). -/
theorem State.join_of_not_up {s : State} {f : FeedId} (h : (s.feed f).state ≠ .up) (d : DistrictId) :
    s.join f d = s.enqueue f d := by
  apply State.runGrantRule_of_not_up
  simpa [State.enqueue] using h

/-- What a join does to the districts that were not QUEUED. -/
theorem State.join_bystander (s : State) (f : FeedId) {d e : DistrictId} (hne : e ≠ d)
    (h : (s.district e).state ≠ .queued) : (s.join f d).district e = s.district e := by
  have he : (s.enqueue f d).district e = s.district e := by
    simp [State.enqueue, State.district_modDistrict, hne]
  rw [State.join, ((s.enqueue f d).runGrantRule_grants f).bystander (by rw [he]; exact h), he]

/-! ## LATCHED and TRIPPED (R22, R23, R48) -/

/-- What LATCHED leaves at the district. -/
theorem State.latch_district (s : State) (d e : DistrictId) (cause : Cause) :
    (s.latch d cause).district e =
      if e = d then
        { (s.district d).enter .latched with
          stats := { (s.district d).stats with latches := (s.district d).stats.latches.rise } }
      else s.district e := by simp [State.latch, State.district_modDistrict]

/-- The LATCHED decision (R22). -/
theorem State.tripOrLatch_district (s : State) (d e : DistrictId) (cause : Cause) :
    (s.tripOrLatch d cause).district e =
      if e = d then
        if (s.dset d).r ≤ (s.district d).retry then
          { (s.district d).enter .latched with
            stats := { (s.district d).stats with latches := (s.district d).stats.latches.rise } }
        else (s.district d).toTripped (s.dset d).coolDown
      else s.district e := by
  unfold State.tripOrLatch
  split
  · rw [State.latch_district]
  · rw [State.district_modDistrict]

/-- The LATCHED decision changes no feed and no setting. -/
theorem State.tripOrLatch_frame (s : State) (d : DistrictId) (cause : Cause) :
    (s.tripOrLatch d cause).feeds = s.feeds ∧ (s.tripOrLatch d cause).activeImage = s.activeImage ∧
      (s.tripOrLatch d cause).pendingImage = s.pendingImage ∧ (s.tripOrLatch d cause).nv = s.nv ∧
      (s.tripOrLatch d cause).pending = s.pending ∧ (s.tripOrLatch d cause).inReset = s.inReset := by
  unfold State.tripOrLatch
  split <;> exact ⟨rfl, rfl, rfl, rfl, rfl, rfl⟩

end Sys2Proof.Machine
end

