-- ==== Sys2Proof/Laws/Walker.lean ====
section
/-! SUPPORT. Laws/Walker.lean: what the Chain Walker's operations can do, once: a walk of feed `f` writes that feed's
record and districts that were DARK or QUEUED, posts events, and copies a waiting chain table. -/

namespace Sys2Proof.Machine

/-- Two port records that differ at most in what an append changes (R166, R168). -/
structure SameLine (q q' : PortRecord) : Prop where
  role : q'.role = q.role
  reception : q'.reception = q.reception
  interByte : q'.interByte = q.interByte
  disturbed : q'.disturbed = q.disturbed
  badFrames : q'.badFrames = q.badFrames
  trigger : q'.trigger = q.trigger
  linger : q'.linger = q.linger
  lingerExpired : q'.lingerExpired = q.lingerExpired
  request : q'.request = q.request
  response : q'.response = q.response

theorem SameLine.refl (q : PortRecord) : SameLine q q := ⟨rfl, rfl, rfl, rfl, rfl, rfl, rfl, rfl, rfl, rfl⟩

theorem SameLine.trans {q q' q'' : PortRecord} (h : SameLine q q') (k : SameLine q' q'') : SameLine q q'' :=
  ⟨k.1.trans h.1, k.2.trans h.2, k.3.trans h.3, k.4.trans h.4, k.5.trans h.5, k.6.trans h.6, k.7.trans h.7,
   k.8.trans h.8, k.9.trans h.9, k.10.trans h.10⟩

theorem SameLine.onAppend (q : PortRecord) : SameLine q q.onAppend := by
  obtain ⟨h1, h2, h3, h4, h5, h6, h7, h8, h9, h10⟩ := q.onAppend_frame
  exact ⟨h1, h2, h3, h4, h5, h6, h7, h8, h9, h10⟩

/-- What a walk of feed `f` can do. -/
structure Walks (f : FeedId) (s t : State) : Prop where
  pending : t.pending = s.pending
  inReset : t.inReset = s.inReset
  now : t.now = s.now
  autostart : t.autostart = s.autostart
  pendingImage : t.pendingImage = s.pendingImage
  districtSets : t.activeImage.districts = s.activeImage.districts
  feedSets : t.activeImage.feeds = s.activeImage.feeds
  snapshot : t.snapshot = s.snapshot
  nv : t.nv = s.nv
  lines : ∀ p, SameLine (s.port p) (t.port p)
  otherFeeds : ∀ g, g ≠ f → t.feed g = s.feed g
  bystander : ∀ d, (s.district d).state ≠ .queued → (s.district d).state ≠ .dark → t.district d = s.district d

theorem Walks.refl (f : FeedId) (s : State) : Walks f s s :=
  ⟨rfl, rfl, rfl, rfl, rfl, rfl, rfl, rfl, rfl, fun _ => SameLine.refl _, fun _ _ => rfl, fun _ _ _ => rfl⟩

theorem Walks.trans {f : FeedId} {s t u : State} (h : Walks f s t) (k : Walks f t u) : Walks f s u where
  pending := k.pending.trans h.pending
  inReset := k.inReset.trans h.inReset
  now := k.now.trans h.now
  autostart := k.autostart.trans h.autostart
  pendingImage := k.pendingImage.trans h.pendingImage
  districtSets := k.districtSets.trans h.districtSets
  feedSets := k.feedSets.trans h.feedSets
  snapshot := k.snapshot.trans h.snapshot
  nv := k.nv.trans h.nv
  lines := fun p => (h.lines p).trans (k.lines p)
  otherFeeds := fun g hg => (k.otherFeeds g hg).trans (h.otherFeeds g hg)
  bystander := fun d hq hd => by
    have e := h.bystander d hq hd
    rw [k.bystander d (by rw [e]; exact hq) (by rw [e]; exact hd), e]

theorem Walks.dset {f : FeedId} {s t : State} (h : Walks f s t) (d : DistrictId) : t.dset d = s.dset d := by
  simp [State.dset, Image.district, h.districtSets]

theorem Walks.fset {f : FeedId} {s t : State} (h : Walks f s t) (g : FeedId) : t.fset g = s.fset g := by
  simp [State.fset, Image.feed, h.feedSets]

theorem Walks.feedOfDistrict {f : FeedId} {s t : State} (h : Walks f s t) (d : DistrictId) :
    t.feedOfDistrict d = s.feedOfDistrict d := by simp [State.feedOfDistrict, h.dset d]

theorem Grants.walks {f : FeedId} {s t : State} (h : Grants f s t) : Walks f s t where
  pending := h.records.pending
  inReset := h.records.inReset
  now := h.records.now
  autostart := h.records.autostart
  pendingImage := h.records.pendingImage
  districtSets := by rw [h.records.activeImage]
  feedSets := by rw [h.records.activeImage]
  snapshot := h.records.snapshot
  nv := h.records.nv
  lines := fun p => by simp only [State.port, h.records.ports]; exact SameLine.refl _
  otherFeeds := h.otherFeeds
  bystander := fun _ hq _ => h.bystander hq

/-! ## The building blocks -/

theorem Walks.modFeed (s : State) (f : FeedId) (g : Feed → Feed) : Walks f s (s.modFeed f g) :=
  ⟨rfl, rfl, rfl, rfl, rfl, rfl, rfl, rfl, rfl, fun _ => SameLine.refl _,
   fun _ he => s.feed_modFeed_of_ne he g, fun _ _ _ => rfl⟩

theorem Walks.modWalk (s : State) (f : FeedId) (g : Walk → Walk) : Walks f s (s.modWalk f g) := Walks.modFeed s f _

theorem Walks.post (f : FeedId) (s : State) (ev : Event) : Walks f s (s.post ev) :=
  ⟨rfl, rfl, rfl, rfl, rfl, rfl, rfl, rfl, rfl, fun p => by rw [State.port_post]; exact SameLine.onAppend _,
   fun _ _ => rfl, fun _ _ _ => rfl⟩

theorem Walks.modDistrict (f : FeedId) (s : State) (d : DistrictId) (g : District → District)
    (h : (s.district d).state = .queued ∨ (s.district d).state = .dark) : Walks f s (s.modDistrict d g) where
  pending := rfl
  inReset := rfl
  now := rfl
  autostart := rfl
  pendingImage := rfl
  districtSets := rfl
  feedSets := rfl
  snapshot := rfl
  nv := rfl
  lines := fun _ => SameLine.refl _
  otherFeeds := fun _ _ => rfl
  bystander := fun e hq hd => State.district_modDistrict_of_ne (by rintro rfl; exact h.elim hq hd) s g

/-- A DARK district at walk end is queued or latched (R139 step 2). -/
theorem Walks.settleDark (f : FeedId) (s : State) (d : DistrictId)
    (h : (s.district d).state = .queued ∨ (s.district d).state = .dark) : Walks f s (s.settleDark f d) := by
  unfold State.settleDark
  split
  · have h1 := Walks.modDistrict f s d (fun r => { r with lastCause := .feedFault }) h
    refine h1.trans ?_
    unfold State.latch State.postDistrict
    exact (Walks.modDistrict f _ d _ (by simpa using h)).trans (Walks.post f _ _)
  · exact (Walks.modDistrict f s d _ h).trans (Walks.modFeed _ f _)

/-- The handling of a DARK district at walk end leaves every other district as it is. -/
theorem State.settleDark_other (f : FeedId) (s : State) {d e : DistrictId} (h : e ≠ d) :
    (s.settleDark f d).district e = s.district e := by
  unfold State.settleDark
  split
  · rw [State.latch_district, if_neg h, State.district_modDistrict_of_ne h]
  · simp [State.enqueue, State.district_modDistrict, h]

theorem Walks.settleAll (f : FeedId) (ds : List DistrictId) (s : State) (hn : ds.Nodup)
    (h : ∀ d ∈ ds, (s.district d).state = .queued ∨ (s.district d).state = .dark) :
    Walks f s (ds.foldl (State.settleDark f) s) := by
  induction ds generalizing s with
  | nil => exact Walks.refl f s
  | cons d ds ih =>
    rw [List.nodup_cons] at hn
    refine (Walks.settleDark f s d (h d (by simp))).trans (ih _ hn.2 fun e he => ?_)
    rw [s.settleDark_other f (by rintro rfl; exact hn.1 he)]
    exact h e (by simp [he])

theorem State.inState_nodup (s : State) (f : FeedId) (st : DState) : (s.inState f st).Nodup :=
  (List.Nodup.filter _ (List.Nodup.filter _ (by decide)))

theorem State.mem_inState (s : State) (f : FeedId) (st : DState) (d : DistrictId) :
    d ∈ s.inState f st ↔ s.feedOfDistrict d = f ∧ (s.district d).state = st := by
  have hd : d ∈ allDistricts := by revert d; decide
  simp [State.inState, State.districtsOf, hd, and_comm]

theorem Walks.copyChains (f : FeedId) (s : State) (o : Origin) : Walks f s (s.copyChains o) :=
  (⟨rfl, rfl, rfl, rfl, rfl, rfl, rfl, rfl, rfl, fun _ => SameLine.refl _, fun _ _ => rfl, fun _ _ _ => rfl⟩ :
    Walks f s { s with activeImage := { s.activeImage with chains := s.pendingImage.chains },
                       chainApplyWaiting := false }).trans (Walks.post f _ _)

theorem Walks.copyWaitingChains (f : FeedId) (s : State) : Walks f s s.copyWaitingChains := by
  unfold State.copyWaitingChains
  split
  · exact Walks.copyChains f s _
  · exact Walks.refl f s

/-! ## Halts, ends and visits -/

/-- What a halt can do (R133). -/
theorem Walks.haltWalk (s : State) (f : FeedId) (o : Origin) (why : HaltReason) : Walks f s (s.haltWalk f o why) :=
  (Walks.modFeed s f _).trans (Walks.post f _ _)

/-- What the end of a walk can do (R139). -/
theorem Walks.endWalk (s : State) (f : FeedId) (o : Origin) (why : EndReason) : Walks f s (s.endWalk f o why) := by
  have h1 := Walks.modWalk s f (fun w => w.stopped why.lastEnd)
  have h2 := Walks.settleAll f _ (s.modWalk f (fun w => w.stopped why.lastEnd))
    ((s.modWalk f (fun w => w.stopped why.lastEnd)).inState_nodup f .dark)
    (fun d hd => .inr ((State.mem_inState _ _ _ _).1 hd).2)
  refine (h1.trans h2).trans (.trans (Walks.modFeed _ f _) (.trans (Walks.post f _ _)
    (.trans (Walks.modFeed _ f _) (.trans (State.runGrantRule_grants _ f).walks (Walks.copyWaitingChains f _)))))

/-- What the abort of a walk can do (R140). -/
theorem Walks.abortWalk (s : State) (f : FeedId) : Walks f s (s.abortWalk f) :=
  (Walks.modFeed s f _).trans (Walks.post f _ _)

theorem Walks.skipMember (s : State) (f : FeedId) : Walks f s (s.skipMember f) := Walks.modWalk s f _

theorem Walks.admitMember (s : State) (f : FeedId) (m : DistrictId) (h : (s.district m).state = .dark) :
    Walks f s (s.admitMember f m) := by
  unfold State.admitMember
  refine (Walks.modFeed s f _).trans (Walks.modDistrict f _ m _ (.inr ?_))
  simpa using h

theorem Walks.admitFrom (f : FeedId) (ms : List DistrictId) (s : State) : Walks f s (admitFrom f ms s) := by
  induction ms generalizing s with
  | nil => exact Walks.refl f s
  | cons m rest ih =>
    unfold Machine.admitFrom
    dsimp only
    split
    · split
      · exact ((Walks.modWalk s f _).trans (Walks.skipMember _ f)).trans (Walks.haltWalk _ f _ _)
      · exact ((Walks.modWalk s f _).trans (Walks.skipMember _ f)).trans (ih _)
    · split
      · exact (Walks.skipMember s f).trans (ih _)
      · split
        · refine (Walks.admitMember s f m ?_).trans (ih _)
          simp_all
        · exact Walks.modWalk s f _

/-- What an admission pass can do (R126). -/
theorem Walks.runAdmission (s : State) (f : FeedId) : Walks f s (s.runAdmission f) := Walks.admitFrom f _ s

theorem Walks.pauseOrLink {f : FeedId} {visit : Position → State → State} (hv : ∀ pos s, Walks f s (visit pos s))
    (s : State) : Walks f s (s.pauseOrLink visit f) := by
  unfold State.pauseOrLink
  split
  · exact Walks.modWalk s f _
  · split
    · exact Walks.endWalk s f _ _
    · exact hv _ s

theorem Walks.complete {f : FeedId} {visit : Position → State → State} (hv : ∀ pos s, Walks f s (visit pos s))
    (s : State) : Walks f s (s.complete visit f) := by
  have hp : Walks f s (s.postEntryDone f) := Walks.post f s _
  unfold State.complete
  split
  · split
    · exact hp.trans (Walks.modWalk _ f _)
    · exact hp.trans (Walks.pauseOrLink hv _)
  · exact Walks.refl f s

theorem Walks.visit (n : Nat) (f : FeedId) (pos : Position) (s : State) : Walks f s (visit n f pos s) := by
  induction n generalizing pos s with
  | zero => exact Walks.refl f s
  | succ n ih =>
    unfold Machine.visit
    have h1 := Walks.modWalk s f (fun w => { w with position := pos, stepCount := w.stepCount + 1 })
    dsimp only
    split
    · exact h1.trans ((Walks.modWalk _ f _).trans (Walks.endWalk _ f _ _))
    · exact h1.trans (((Walks.modWalk _ f _).trans (Walks.runAdmission _ f)).trans (Walks.complete (fun _ _ => ih _ _) _))

/-- What a visit, with all that follows it in one event, can do (R125). -/
theorem Walks.visitEntry (f : FeedId) (pos : Position) (s : State) : Walks f s (s.visitEntry f pos) :=
  Walks.visit _ f pos s

/-- What the start of a walk can do (R123). -/
theorem Walks.startWalk (s : State) (f : FeedId) (o : Origin) (reason : Nat) :
    Walks f s (s.startWalk f o reason) := by
  have go : ∀ t : State, Walks f t (match t.firstPosition f with
      | none => t.endWalk f .device .completed
      | some pos => t.visitEntry f pos) := fun t => by
    split
    · exact Walks.endWalk t f _ _
    · exact Walks.visitEntry f _ t
  exact (Walks.modWalk s f _).trans ((Walks.post f _ _).trans (go _))

/-- What following a link can do (R130). -/
theorem Walks.followLink (s : State) (f : FeedId) : Walks f s (s.followLink f) := by
  unfold State.followLink
  split
  · exact Walks.endWalk s f _ _
  · exact Walks.visitEntry f _ s

/-- What going on with an entry can do (R127, R135). -/
theorem Walks.resumeEntry (s : State) (f : FeedId) : Walks f s (s.resumeEntry f) :=
  (Walks.runAdmission s f).trans (Walks.complete (Walks.visitEntry f) _)

/-- What a walk soak's notice can do at the walk context (R128). -/
theorem Walks.walkNotice (s : State) (f : FeedId) (d : DistrictId) (o : NoticeOutcome) :
    Walks f s (s.walkNotice f d o) := by
  unfold State.walkNotice
  split
  · exact Walks.refl f s
  · have halt : ∀ t : State, Walks f t (if o = .failed ∧ (t.fset f).haltOnError = true ∧ (t.feed f).state = .walking
        then t.haltWalk f .device (.memberFailed d) else t) := fun t => by
      split
      · exact Walks.haltWalk t f _ _
      · exact Walks.refl f t
    have retry : ∀ t : State, Walks f t (if (t.feed f).state = .walking ∧ (t.walk f).waiting = true then t.runAdmission f
        else t) := fun t => by
      split
      · exact Walks.runAdmission t f
      · exact Walks.refl f t
    exact (Walks.modWalk s f _).trans ((halt _).trans ((retry _).trans (Walks.complete (Walks.visitEntry f) _)))

end Sys2Proof.Machine
end

