-- ==== Sys2Proof/Laws/Copies.lean ====
section
/-! SUPPORT. Laws/Copies.lean: what a soak-end notice, a feed copy, a correction, a district copy and the entry to
OFF can do, once each. -/

namespace Sys2Proof.Machine

/-! ## Notices and feed copies (R113, R115) -/

/-- What a soak-end notice at feed `f` can do: all that a walk of `f` can, and a copy of `f`'s settings. -/
structure Notices (f : FeedId) (s t : State) : Prop where
  pending : t.pending = s.pending
  inReset : t.inReset = s.inReset
  now : t.now = s.now
  autostart : t.autostart = s.autostart
  pendingImage : t.pendingImage = s.pendingImage
  districtSets : t.activeImage.districts = s.activeImage.districts
  otherFeedSets : ∀ g, g ≠ f → t.fset g = s.fset g
  snapshot : t.snapshot = s.snapshot
  nv : t.nv = s.nv
  lines : ∀ p, SameLine (s.port p) (t.port p)
  otherFeeds : ∀ g, g ≠ f → t.feed g = s.feed g
  bystander : ∀ d, (s.district d).state ≠ .queued → (s.district d).state ≠ .dark → t.district d = s.district d

theorem Walks.notices {f : FeedId} {s t : State} (h : Walks f s t) : Notices f s t :=
  ⟨h.pending, h.inReset, h.now, h.autostart, h.pendingImage, h.districtSets, fun g _ => h.fset g, h.snapshot, h.nv,
   h.lines, h.otherFeeds, h.bystander⟩

theorem Notices.refl (f : FeedId) (s : State) : Notices f s s := (Walks.refl f s).notices

theorem Notices.trans {f : FeedId} {s t u : State} (h : Notices f s t) (k : Notices f t u) : Notices f s u where
  pending := k.pending.trans h.pending
  inReset := k.inReset.trans h.inReset
  now := k.now.trans h.now
  autostart := k.autostart.trans h.autostart
  pendingImage := k.pendingImage.trans h.pendingImage
  districtSets := k.districtSets.trans h.districtSets
  otherFeedSets := fun g hg => (k.otherFeedSets g hg).trans (h.otherFeedSets g hg)
  snapshot := k.snapshot.trans h.snapshot
  nv := k.nv.trans h.nv
  lines := fun p => (h.lines p).trans (k.lines p)
  otherFeeds := fun g hg => (k.otherFeeds g hg).trans (h.otherFeeds g hg)
  bystander := fun d hq hd => by
    have e := h.bystander d hq hd
    rw [k.bystander d (by rw [e]; exact hq) (by rw [e]; exact hd), e]

theorem Notices.dset {f : FeedId} {s t : State} (h : Notices f s t) (d : DistrictId) : t.dset d = s.dset d := by
  simp [State.dset, Image.district, h.districtSets]

theorem Notices.installFeed (s : State) (f : FeedId) : Notices f s (s.installFeed f) where
  pending := rfl
  inReset := rfl
  now := rfl
  autostart := rfl
  pendingImage := rfl
  districtSets := rfl
  otherFeedSets := fun g hg => by
    show (s.activeImage.withFeed f (s.pendingImage.feed f)).feed g = s.activeImage.feed g
    rw [Image.feed_withFeed, if_neg hg]
  snapshot := rfl
  nv := rfl
  lines := fun _ => SameLine.refl _
  otherFeeds := fun _ hg => State.feed_modFeed_of_ne hg _ _
  bystander := fun _ _ _ => rfl

/-- A feed's active settings after its copy are its pending ones (R115). -/
theorem State.installFeed_fset (s : State) (f : FeedId) : (s.installFeed f).fset f = s.pendingImage.feed f := by
  show (s.activeImage.withFeed f (s.pendingImage.feed f)).feed f = _
  rw [Image.feed_withFeed, if_pos rfl]

/-- What a feed's copy can do (R115). -/
theorem Notices.copyFeed (s : State) (f : FeedId) : Notices f s (s.copyFeed f) :=
  (Notices.installFeed s f).trans (State.runGrantRule_grants _ f).walks.notices

theorem Notices.copyWaitingFeed (s : State) (f : FeedId) : Notices f s (s.copyWaitingFeed f) := by
  unfold State.copyWaitingFeed
  split
  · exact (Notices.installFeed s f).trans
      ((Walks.post f _ _).notices.trans (State.runGrantRule_grants _ f).walks.notices)
  · exact Notices.refl f s

/-- What a soak-end notice can do (R113). -/
theorem Notices.soakEndNotice (s : State) (f : FeedId) (d : DistrictId) (c : SoakContext) (o : NoticeOutcome) :
    Notices f s (s.soakEndNotice f d c o) := by
  have pass : ∀ t : State, Notices f t (if c.origin = .individual then t else t.walkNotice f d o) := fun t => by
    split
    · exact Notices.refl f t
    · exact (Walks.walkNotice t f d o).notices
  exact (Walks.modFeed s f _).notices.trans ((pass _).trans
    ((State.runGrantRule_grants _ f).walks.notices.trans (Notices.copyWaitingFeed _ f)))

/-! ## Corrections (R149) -/

/-- A corrected set has H below T below L (R149). -/
theorem State.correction_ordered (s : State) (named : Half) (d : DistrictId) :
    (s.correction named d).set.h < (s.correction named d).set.t ∧
      (s.correction named d).set.t < (s.correction named d).set.l := by
  simp only [State.correction]
  constructor
  · split <;> omega
  · split <;> split <;> omega

/-- What a correction writes: the district's pending set. -/
theorem State.correct_pendingImage (s : State) (named : Half) (o : Origin) (d : DistrictId) :
    (s.correct named o d).pendingImage = s.pendingImage.withDistrict d (s.correction named d).set := by
  unfold State.correct
  dsimp only
  split <;> rfl

/-- What a correction leaves as it was. -/
theorem State.correct_frame (s : State) (named : Half) (o : Origin) (d : DistrictId) :
    (s.correct named o d).districts = s.districts ∧ (s.correct named o d).feeds = s.feeds ∧
      (s.correct named o d).activeImage = s.activeImage ∧ (s.correct named o d).pending = s.pending ∧
      (s.correct named o d).inReset = s.inReset ∧ (s.correct named o d).now = s.now ∧
      (s.correct named o d).nv = s.nv ∧ (s.correct named o d).snapshot = s.snapshot := by
  unfold State.correct
  dsimp only
  split <;> exact ⟨rfl, rfl, rfl, rfl, rfl, rfl, rfl, rfl⟩

/-! ## District copies (R150 to R152) -/

/-- What a copy of district `d` can do to any other district `e`: a QUEUED one may be granted, and the grace and
the deferral of another may be cleared. -/
structure CopyBeside (d : DistrictId) (s t : State) : Prop where
  inReset : t.inReset = s.inReset
  nv : t.nv = s.nv
  snapshot : t.snapshot = s.snapshot
  lines : ∀ p, SameLine (s.port p) (t.port p)
  otherSets : ∀ e, e ≠ d → t.dset e = s.dset e
  feedSets : ∀ f, t.fset f = s.fset f
  states : ∀ e, e ≠ d → (s.district e).state ≠ .queued → (t.district e).state = (s.district e).state
  holds : ∀ e, (t.district e).holds = (s.district e).holds
  off : ∀ e, (s.district e).state = .off → (t.district e).state = .off

theorem CopyBeside.refl (d : DistrictId) (s : State) : CopyBeside d s s :=
  ⟨rfl, rfl, rfl, fun _ => SameLine.refl _, fun _ _ => rfl, fun _ => rfl, fun _ _ _ => rfl, fun _ => rfl,
   fun _ h => h⟩

theorem CopyBeside.trans {d : DistrictId} {s t u : State} (h : CopyBeside d s t) (k : CopyBeside d t u) :
    CopyBeside d s u where
  inReset := k.inReset.trans h.inReset
  nv := k.nv.trans h.nv
  snapshot := k.snapshot.trans h.snapshot
  lines := fun p => (h.lines p).trans (k.lines p)
  otherSets := fun e he => (k.otherSets e he).trans (h.otherSets e he)
  feedSets := fun f => (k.feedSets f).trans (h.feedSets f)
  states := fun e he hq => by
    have e1 := h.states e he hq
    rw [k.states e he (by rw [e1]; exact hq), e1]
  holds := fun e => (k.holds e).trans (h.holds e)
  off := fun e he => k.off e (h.off e he)

theorem Grants.copyBeside {f : FeedId} {s t : State} (h : Grants f s t) (d : DistrictId) : CopyBeside d s t where
  inReset := h.records.inReset
  nv := h.records.nv
  snapshot := h.records.snapshot
  lines := h.walks.lines
  otherSets := fun e _ => h.records.dset e
  feedSets := h.records.fset
  states := fun e _ hq => by rw [h.bystander hq]
  holds := fun e => by
    rcases h.districts e with k | ⟨-, -, k⟩ <;> rw [k]
    simp [District.granted, District.startSoak]
  off := fun e he => by rw [h.bystander (by rw [he]; decide)]; exact he

/-- A change of district `d` that keeps its hold set, and OFF where it is OFF. -/
theorem CopyBeside.modDistrict (s : State) (d e : DistrictId) (g : District → District)
    (hst : e ≠ d → (g (s.district e)).state = (s.district e).state)
    (hh : (g (s.district e)).holds = (s.district e).holds)
    (ho : (s.district e).state = .off → (g (s.district e)).state = .off) :
    CopyBeside d s (s.modDistrict e g) where
  inReset := rfl
  nv := rfl
  snapshot := rfl
  lines := fun _ => SameLine.refl _
  otherSets := fun _ _ => rfl
  feedSets := fun _ => rfl
  states := fun x hx _ => by
    rw [State.district_modDistrict]
    split
    · subst x; exact hst hx
    · rfl
  holds := fun x => by
    rw [State.district_modDistrict]
    split
    · subst x; exact hh
    · rfl
  off := fun x hx => by
    rw [State.district_modDistrict]
    split
    · subst x; exact ho hx
    · exact hx

theorem CopyBeside.modFeed (d : DistrictId) (s : State) (f : FeedId) (g : Feed → Feed) :
    CopyBeside d s (s.modFeed f g) :=
  ⟨rfl, rfl, rfl, fun _ => SameLine.refl _, fun _ _ => rfl, fun _ => rfl, fun _ _ _ => rfl, fun _ => rfl,
   fun _ h => h⟩

theorem CopyBeside.post (d : DistrictId) (s : State) (ev : Event) : CopyBeside d s (s.post ev) :=
  ⟨rfl, rfl, rfl, fun p => by rw [State.port_post]; exact SameLine.onAppend _, fun _ _ => rfl, fun _ => rfl,
   fun _ _ _ => rfl, fun _ => rfl, fun _ h => h⟩

theorem CopyBeside.clearRelations (before : Image) (d : DistrictId) (ds : List DistrictId) (s : State) :
    CopyBeside d s (ds.foldl (State.clearChangedRelation before) s) := by
  induction ds generalizing s with
  | nil => exact CopyBeside.refl d s
  | cons e ds ih =>
    refine CopyBeside.trans ?_ (ih _)
    unfold State.clearChangedRelation
    split
    · exact CopyBeside.refl d s
    · exact CopyBeside.modDistrict s d e _ (fun _ => rfl) rfl id

theorem CopyBeside.installDistrict (s : State) (d : DistrictId) : CopyBeside d s (s.installDistrict d) := by
  have h : CopyBeside d s
      { s with activeImage := s.activeImage.withDistrict d (s.pendingImage.district d) } :=
    { inReset := rfl
      nv := rfl
      snapshot := rfl
      lines := fun _ => SameLine.refl _
      otherSets := fun e he => by
        show (s.activeImage.withDistrict d _).district e = s.activeImage.district e
        rw [Image.district_withDistrict, if_neg he]
      feedSets := fun _ => rfl
      states := fun _ _ _ => rfl
      holds := fun _ => rfl
      off := fun _ h => h }
  unfold State.installDistrict
  dsimp only
  exact (h.trans (CopyBeside.clearRelations s.activeImage d allDistricts _)).trans
    (CopyBeside.modDistrict _ d d _ (fun _ => rfl) rfl id)

theorem CopyBeside.leaveFor (s : State) (f : FeedId) (d : DistrictId) (st : DState)
    (h : (s.district d).state = .off → st = .off) : CopyBeside d s (s.leaveFor f d st) := by
  have h1 : CopyBeside d s (s.modDistrict d (fun r => r.enter st)) :=
    CopyBeside.modDistrict s d d _ (fun hd => absurd rfl hd) (by simp) (by simpa using h)
  unfold State.leaveFor
  dsimp only
  split
  · exact h1.trans ((CopyBeside.modFeed d _ f _).trans ((State.runGrantRule_grants _ f).copyBeside d))
  · exact h1

theorem CopyBeside.returnToService (s : State) (d : DistrictId) (h : (s.district d).state ≠ .off) :
    CopyBeside d s (s.returnToService d) := by
  have enter : ∀ st, CopyBeside d s (s.modDistrict d (fun r => r.enter st)) := fun st =>
    CopyBeside.modDistrict s d d _ (fun hd => absurd rfl hd) (by simp) (fun h' => absurd h' h)
  unfold State.returnToService
  split
  · exact (enter _).trans ((CopyBeside.modFeed d _ _ _).trans ((State.runGrantRule_grants _ _).copyBeside d))
  · exact enter _

/-- What the effects of a changed feed or kind can do beside the district (R152). -/
theorem CopyBeside.changeFeedOrKind (s : State) (old : FeedId) (d : DistrictId) :
    CopyBeside d s (s.changeFeedOrKind old d) := by
  have h1 : CopyBeside d s (s.modDistrict d
      (fun r => if (s.dset d).kind = .reversing then r else { r with polarity := .normal })) :=
    CopyBeside.modDistrict s d d _ (fun hd => absurd rfl hd) (by split <;> rfl) (by split <;> exact id)
  have key : ∀ t : State, CopyBeside d t
      (match (t.district d).state with
      | .off => t
      | .latched => if (t.dset d).kind = .unused then t.modDistrict d (fun r => r.enter .off) else t
      | .dark | .live | .tripped | .queued =>
        if (t.dset d).kind = .unused then t.leaveFor old d .off else (t.leaveFor old d .dark).returnToService d
      | .swapping | .swapCheck | .soaking => t) := fun t => by
    have fresh : (t.district d).state ≠ .off → CopyBeside d t
        (if (t.dset d).kind = .unused then t.leaveFor old d .off
          else (t.leaveFor old d .dark).returnToService d) := fun hs => by
      split
      · exact CopyBeside.leaveFor t old d .off (fun _ => rfl)
      · refine (CopyBeside.leaveFor t old d .dark (fun h' => absurd h' hs)).trans (CopyBeside.returnToService _ d ?_)
        have : ((t.modDistrict d (fun r => r.enter .dark)).district d).state = .dark := by simp
        unfold State.leaveFor
        dsimp only
        split
        · have g := State.runGrantRule_grants
            ((t.modDistrict d (fun r => r.enter .dark)).leaveQueue old d) old
          rw [g.bystander (by show ((t.modDistrict d (fun r => r.enter .dark)).district d).state ≠ _; rw [this]; decide)]
          show ((t.modDistrict d (fun r => r.enter .dark)).district d).state ≠ .off
          rw [this]; decide
        · rw [this]; decide
    split
    · exact CopyBeside.refl d t
    · split
      · exact CopyBeside.modDistrict t d d _ (fun hd => absurd rfl hd) (by simp) (fun _ => rfl)
      · exact CopyBeside.refl d t
    all_goals first | exact CopyBeside.refl d t | exact fresh (by simp_all)
  exact h1.trans (key _)

/-- What a district's copy can do beside the district (R150 to R152). -/
theorem CopyBeside.copyDistrict (s : State) (d : DistrictId) : CopyBeside d s (s.copyDistrict d) := by
  have h := CopyBeside.installDistrict s d
  unfold State.copyDistrict
  dsimp only
  split
  · split
    · exact h.trans ((State.runGrantRule_grants _ _).copyBeside d)
    · exact h
  · exact h.trans (CopyBeside.changeFeedOrKind _ _ d)

theorem CopyBeside.correct (s : State) (named : Half) (o : Origin) (d : DistrictId) :
    CopyBeside d s (s.correct named o d) := by
  have h : ∀ i : Image, CopyBeside d s { s with pendingImage := i } := fun i =>
    ⟨rfl, rfl, rfl, fun _ => SameLine.refl _, fun _ _ => rfl, fun _ => rfl, fun _ _ _ => rfl, fun _ => rfl,
     fun _ h => h⟩
  unfold State.correct
  dsimp only
  split
  · exact (h _).trans (CopyBeside.post d _ _)
  · exact h _

/-- What a deferred copy can do beside its district (R150). -/
theorem CopyBeside.deferredCopy (s : State) (d : DistrictId) : CopyBeside d s (s.deferredCopy d) := by
  unfold State.deferredCopy
  dsimp only
  split
  · exact (((CopyBeside.correct s 0 .device d).trans
      (CopyBeside.modDistrict _ d d _ (fun _ => rfl) rfl id)).trans (CopyBeside.post d _ _)).trans
      (CopyBeside.copyDistrict _ d)
  · exact CopyBeside.refl d s

/-- A district with no apply waiting has no deferred copy. -/
theorem State.deferredCopy_of_clear {s : State} {d : DistrictId} (h : (s.district d).applyDeferred = false) :
    s.deferredCopy d = s := by simp [State.deferredCopy, h]

end Sys2Proof.Machine
end

