-- ==== Sys2Proof/WellFormed.lean ====
section
/-! DEFINITION. WellFormed.lean: which commands carry operands that the spec's tables name. Most operands cannot
be written out of range; a request's bytes are all legal on the line (a number out of range is answered with
BAD-TARGET, R160), so one operand is left to check. -/

namespace Sys2Proof

/-- A sample handed to a record is a sense count of 0 to 1023 (R27). The scanner's clamp makes one of any level. -/
def isSenseCount (level : Int) : Bool :=
  decide (0 ≤ level) && decide (level ≤ Config.fullScale)

/-- The operands of the command lie in the ranges the spec gives them. -/
def Instr.wellFormed : Instr → Bool
  | .sampleArrival _ level => isSenseCount level
  | _ => true

end Sys2Proof
end

