-- ==== Sys2Proof/Tests/Slice0.lean ====
section
/-! SUPPORT. Tests/Slice0.lean: the WellFormed smoke test, one-step tests whose expected values are the spec's own
worked examples, and for every statement with hypotheses a state and operands that meet them (`witness_…`). -/

set_option Elab.async false
set_option synthInstance.maxSize 4096

namespace Sys2Proof.Tests

open Sys2Proof.Machine

/-! ## Small states -/

/-- The next state of a command; the state itself where there is none. -/
def after (c : Instr) (s : State) : State :=
  match exec c s with
  | .next t => t
  | .fault _ => s
  | .refused _ => s

/-- The response a port sends, as a frame. -/
def answer (p : Port) (s : State) : Option (List Byte) := s.tx p

/-- Feed `f` is UP and idle. -/
def up (f : FeedId) (s : State) : State :=
  s.modFeed f (fun x => { x with state := .up, accepted := .healthy, debounce := none })

/-- Feed `f` walks entry or district `pos`, in this phase. -/
def walking (f : FeedId) (st : FState) (ph : Phase) (pos : Position) (s : State) : State :=
  (up f s).modFeed f (fun x =>
    { x with state := st, walk := { x.walk with phase := ph, kind := .chain, position := pos, stepCount := 1 } })

/-- The district's active settings are changed by `g`. -/
def settings (d : DistrictId) (g : DistrictSet → DistrictSet) (s : State) : State :=
  { s with activeImage := s.activeImage.withDistrict d (g (s.dset d)) }

/-- The active chain entry `e`. -/
def entry (e : EntryId) (c : ChainEntry) (s : State) : State :=
  { s with activeImage := s.activeImage.withEntry e c }

/-- District 1 is REVERSING with partner 0. -/
def loop (s : State) : State := settings 1 (fun ds => { ds with kind := .reversing, partner := some 0 }) s

/-- A full window of these samples. -/
def District.fed (r : District) (xs : List Nat) : District :=
  { r with window := xs, sum := xs.sum, fill := 8, occupancy := .occupied }

/-- A closed district in this state with a window of eight equal samples. -/
def closed (st : DState) (x : Nat) : District :=
  District.fed { resetDistrict st with switch := .closed } (List.replicate 8 x)

/-- District 0 on the idle UP feed 0 with this record. -/
def with0 (r : District) : State := (up 0 State.reset).setDistrict 0 r

/-- A soak context. -/
def soakOf (origin : SoakOrigin) (n e cost : Nat) : SoakContext := { origin := origin, n := n, e := e, cost := cost }

/-- A district soaking with this context over a window of eight equal samples. -/
def soaking (c : SoakContext) (x : Nat) : District := { closed .soaking x with soak := some c }

/-- A district in the check of a swap from NORMAL. -/
def checking (n x : Nat) : District :=
  { closed .swapCheck x with preSwap := some .normal, polarity := .swapped, checkCount := some n }

/-- Port B with this record. -/
def portB (g : PortRecord → PortRecord) (s : State) : State := s.modPort .b g

/-- The pins of `State.reset`. -/
def pins0 : StartPins :=
  { roleA := 1, roleB := 3, roleC := 2, autost := false, flt0 := .healthy, flt1 := .healthy, flt2 := .healthy,
    flt3 := .healthy }

/-! ## WellFormed -/

theorem test_wf_refuses_a_level_above_full_scale : (Instr.sampleArrival 0 1024).wellFormed = false := by decide

theorem test_wf_refuses_a_negative_level : (Instr.sampleArrival 0 (-1)).wellFormed = false := by decide

theorem test_wf_takes_full_scale : (Instr.sampleArrival 0 1023).wellFormed = true := by decide

/-! ## Frames (8.7) -/

/-- 8.7: the ENABLE of district 6 is 5C 03 20 40 00 9D. -/
theorem test_enable_frame : requestFrame .enable (halfBytes 0x0040) = [0x5C, 0x03, 0x20, 0x40, 0x00, 0x9D] := by decide

/-- 8.7: that frame carries ENABLE with mask 0040h. -/
theorem test_enable_decodes : decodeRequest .c .enable [0x40, 0x00] = some (.enable .c 0x0040) := by decide

/-- 8.7: the response is C5 08 20 00 40 00 00 00 00 00 98, and the district is granted in the same event. -/
theorem test_enable_is_answered_and_granted :
    answer .c (after (.enable .c 0x0040) (up 1 State.reset)) =
      some [0xC5, 0x08, 0x20, 0x00, 0x40, 0x00, 0x00, 0x00, 0x00, 0x00, 0x98] ∧
    ((after (.enable .c 0x0040) (up 1 State.reset)).district 6).state = .soaking := by decide +kernel

/-- 8.7: HOLD from the WATCH port A is answered C5 02 22 10 CC. -/
theorem test_hold_from_watch_is_refused :
    answer .a (after (.hold .a 0x0040) State.reset) = some [0xC5, 0x02, 0x22, 0x10, 0xCC] := by decide +kernel

/-- 8.7: with the mask byte 41h the sum fails and the bad-frame count rises. -/
theorem test_corrupt_frame_is_counted :
    ((after (.rxByte .c 0x9D true)
      (State.reset.modPort .c (fun q => { q with reception := .frame [0x03, 0x20, 0x41, 0x00] }))).port .c).badFrames =
      1 := by decide +kernel

/-- 8.7: the good frame's CHECK passes the request on. -/
theorem test_good_frame_is_passed_on :
    ((after (.rxByte .c 0x9D true)
      (State.reset.modPort .c (fun q => { q with reception := .frame [0x03, 0x20, 0x40, 0x00] }))).port .c).request =
      some (.enable .c 0x0040) := by decide +kernel

/-! ## Trips (2.6) -/

/-- 2.6: with five 300s after 180s the average is 255 and the STRICT district trips by SLOW. -/
theorem test_sustained_overload_trips :
    let t := after (.sampleArrival 0 300)
      (with0 { District.fed (closed .live 0) [180, 180, 180, 180, 300, 300, 300, 300] with mode := .strict })
    (t.district 0).state = .tripped ∧ (t.district 0).lastCause = .slow ∧ (t.ring.entries[1]).value = 255 := by
  decide +kernel

/-- 2.6: a 620 over 180s is excused with an average of 235. -/
theorem test_spike_is_excused :
    let t := after (.sampleArrival 0 620) (with0 (closed .live 180))
    (t.district 0).state = .live ∧ (t.district 0).mode = .strict ∧ (t.district 0).sum = 1880 ∧
      (t.district 0).stats.excuses.count = 1 := by decide +kernel

/-- 2.6: a 520 over 240s is excused with 520 and then trips by SLOW with 275. -/
theorem test_both_conditions :
    let t := after (.sampleArrival 0 520) (with0 (closed .live 240))
    (t.district 0).state = .tripped ∧ (t.ring.entries[1]).value = 520 ∧ (t.ring.entries[2]).value = 275 := by
  decide +kernel

/-! ## Soaks (3.8, 2.9) -/

/-- The settings of 3.8. -/
def case38 (ds : DistrictSet) : DistrictSet := { ds with h := 40, t := 150, l := 400, q := 1500 }

/-- 3.8 case 1: sample 40 of 38s passes with E 1122; SOAK-PASSED carries 1122, pool and slot return. -/
theorem test_soak_passes :
    let s := settings 0 case38 (with0 (soaking (soakOf .individual 39 1122 400) 38))
    let t := after (.sampleArrival 0 38) (s.modFeed 0 (fun x => { x with pool := 400, slots := 1 }))
    (t.district 0).state = .live ∧ (t.ring.entries[1]).value = 1122 ∧ (t.feed 0).pool = 0 ∧
      (t.feed 0).slots = 0 := by decide +kernel

/-- 2.9: the eighth soak sample makes the district OCCUPIED and posts OCCUPANCY with 179. -/
theorem test_occupancy_from_a_soak :
    let r : District :=
      { soaking (soakOf .individual 7 1100 400) 0 with
        window := [0, 380, 300, 230, 175, 130, 95, 70], sum := 1380, fill := 7, occupancy := .unknown }
    let t := after (.sampleArrival 0 55) (settings 0 (fun ds => { case38 ds with occReports := true }) (with0 r))
    (t.district 0).occupancy = .occupied ∧ (t.district 0).seen = true ∧ (t.ring.entries[1]).value = 179 := by
  decide +kernel

/-- 2.10: at a charge of 4,294,967,100 a sample of 300 is not added and the overflow flag is set. -/
theorem test_accounting_overflows :
    (({ charge := 4294967100, count := 14316557, peak := 300, overflow := false } : Accounting).add 300) =
      { charge := 4294967100, count := 14316557, peak := 300, overflow := true } := by decide

/-! ## Arbitration (5.7) -/

/-- 5.7: on the queue 5, 7, 2 with an idle pool of 800 and two slots, 5 and 7 are granted and 2 is not. -/
theorem test_grant_rule_stops_at_a_head_that_does_not_fit :
    let s := [(5, 400), (7, 250), (2, 300)].foldl (fun (s : State) (x : DistrictId × Nat) =>
        (settings x.1 (fun ds => { ds with feed := 1, l := x.2 }) s).enqueue 1 x.1) (up 1 State.reset)
    let t := ({ s with activeImage := s.activeImage.withFeed 1 { s.fset 1 with s := 2 } }).runGrantRule 1
    (t.feed 1).queue = [2] ∧ (t.feed 1).pool = 650 ∧ (t.feed 1).slots = 2 := by decide +kernel

/-! ## Witnesses: queue, step, reset, ports -/

theorem witness_StepTakesTheFrontCommand :
    ({ State.reset with pending := [.save .b] }).pending = .save .b :: [] := by decide

theorem witness_EmptyQueue_in_reset : (after .resetAsserted State.reset).pending = [] ∧
    (after .resetAsserted State.reset).inReset = true := by decide +kernel

theorem witness_EmptyQueue_due :
    let s := State.reset.modFeed 0 (fun x => { x with debounce := some 0 })
    s.pending = [] ∧ s.inReset = false ∧ ∃ c, s.IsDue c :=
  ⟨by decide, by decide, .debounceExpiry 0, .inr (.inr (.inr (.inl ⟨0, rfl, by decide +kernel⟩)))⟩

theorem witness_EmptyQueue_a_request_is_due :
    (State.reset.modPort .b (fun q => { q with reception := .busy, request := some (.save .b) })).IsDue (.save .b) :=
  .inr (.inr (.inr (.inr (.inr (.inr (.inr (.inl ⟨.b, by decide +kernel⟩)))))))

theorem witness_EmptyQueue_nothing_due : State.reset.pending = [] ∧ State.reset.inReset = false ∧
    ∀ c, ¬State.reset.IsDue c := by
  have d : ∀ d : DistrictId, (State.reset.district d).coolDown ≠ some 0 ∧ (State.reset.district d).settle ≠ some 0 ∧
      (State.reset.district d).deadTime ≠ some 0 := by decide +kernel
  have f : ∀ f : FeedId, (State.reset.feed f).debounce ≠ some 0 ∧ (State.reset.walk f).pause ≠ some 0 := by
    decide +kernel
  have p : ∀ p : Port, (State.reset.port p).interByte = none ∧ (State.reset.port p).lingerTimer = none ∧
      (State.reset.port p).request = none := by intro p; cases p <;> decide +kernel
  have n : State.reset.nv.writing = none := by decide
  refine ⟨by decide, by decide, fun c h => ?_⟩
  obtain ⟨x, -, -, h⟩ | ⟨x, -, h, -⟩ | ⟨x, -, -, h⟩ | ⟨x, -, h⟩ | ⟨x, -, -, h⟩ | ⟨x, -, h⟩ | ⟨x, -, h⟩ | ⟨x, h⟩ |
    ⟨w, h, -⟩ := h
  · exact (d x).1 h
  · exact (d x).2.1 h
  · exact (d x).2.2 h
  · exact (f x).1 h
  · exact (f x).2 h
  · simp [(p x).1] at h
  · simp [(p x).2.1] at h
  · simp [(p x).2.2] at h
  · simp [n] at h

theorem witness_InResetOnlyAStartActs : (after .resetAsserted State.reset).inReset = true ∧
    (Instr.save .b ≠ .resetAsserted) := by decide +kernel

theorem witness_AFrameOnTheLine : encodeRequest (.apply .b 0xFFFF 0x0F) = some (.b, .apply, [0xFF, 0xFF, 0x0F]) ∧
    State.reset.MayRequest .b .apply ∧ (State.reset.port .b).reception = .hunt := by decide +kernel

theorem witness_AByte_hunt : State.reset.inReset = false ∧ (State.reset.port .b).role ≠ .disabled ∧
    (State.reset.port .b).reception = .hunt := by decide +kernel

theorem witness_AByte_len_33 :
    let s := portB (fun q => { q with reception := .frame [] }) State.reset
    (s.port .b).reception = .frame [] ∧ (1 ≤ (33 : Byte).toNat ∧ (33 : Byte).toNat ≤ 33) ∧ 33 < (34 : Byte).toNat := by
  decide +kernel

theorem witness_AByte_gathers :
    let s := portB (fun q => { q with reception := .frame [1] }) State.reset
    (s.port .b).reception = .frame (1 :: []) ∧ ([] : List Byte).length < (1 : Byte).toNat := by decide +kernel

theorem witness_AByte_busy :
    (State.respond State.reset .b 0x35 (Reply.ok []) |>.port .b).reception = .busy := by decide +kernel

/-- R156: a SYNC byte at a DISABLED port. -/
theorem witness_AByte_at_a_disabled_port :
    let s := portB (fun q => { q with role := .disabled }) State.reset
    s.inReset = false ∧ (s.port .b).role = .disabled ∧ (after (.rxByte .b 0x5C true) s).ports = s.ports := by
  decide +kernel

theorem witness_ACompleteFrame :
    let s := portB (fun q => { q with reception := .frame [3, 0x20, 0x40, 0] }) State.reset
    s.inReset = false ∧ (s.port .b).role ≠ .disabled ∧ (s.port .b).reception = .frame (3 :: 0x20 :: [0x40, 0]) ∧
      [0x40, 0].length + 1 = (3 : Byte).toNat ∧ byteSum (3 :: 0x20 :: [0x40, 0] ++ [0x9D]) = 0 ∧
      byteSum (3 :: 0x20 :: [0x40, 0] ++ [0x9E]) ≠ 0 := by decide +kernel

theorem witness_ACompleteFrame_checks : Command.ofCode 0x1A = none ∧ Command.ofCode 0x20 = some .enable ∧
    Role.watch.permits .enable = false ∧ Role.full.permits .enable = true ∧
    ([0x40] : List Byte).length ≠ Command.enable.paramBytes := by decide

theorem witness_PortTimers :
    let s := portB (fun q => { q with reception := .frame [], interByte := some 0, lingerTimer := some 0 }) State.reset
    s.inReset = false ∧ (s.port .b).interByte = some 0 ∧ (s.port .b).lingerTimer = some 0 ∧
      (State.reset.port .b).interByte ≠ some 0 ∧ (State.reset.port .b).lingerTimer ≠ some 0 ∧
      (State.reset.port .b).response = none ∧
      ((State.reset.respond .b 0x35 (Reply.ok [])).port .b).response.isSome = true := by decide +kernel

theorem witness_ARoleLimits :
    encodeRequest (.hold .a 0x40) = some (.a, .hold, [0x40, 0]) ∧ State.reset.inReset = false ∧
      (State.reset.port .a).role ≠ .disabled ∧ (State.reset.port .a).role.permits .hold = false ∧
      (State.reset.port .a).reception ≠ .busy ∧
      ((State.reset.modPort .a (fun q => { q with role := .disabled })).port .a).role = .disabled := by decide +kernel

theorem witness_ARoleLimits_busy :
    let s := portB (fun q => { q with reception := .busy, request := some (.save .b) }) State.reset
    s.inReset = false ∧ (s.port .b).role ≠ .disabled ∧ (s.port .b).reception = .busy ∧
      (s.port .b).request = some (.save .b) ∧ (s.port .b).request ≠ some (.hold .b 0x40) := by decide +kernel

theorem witness_AResponseFrame : ({ cmd := 0x20, status := .ok, data := List.replicate 64 0 } : Response).data.length ≤
    64 := by decide

/-! ## Witnesses: store -/

/-- A part whose store holds the defaults. -/
def stored : State :=
  { State.reset with nv := { blankNv with check := some defaultImage.check } }

theorem witness_AStart_valid_store : stored.nv.writing = none ∧ stored.nv.check = some stored.nv.image.check := by
  decide +kernel

theorem witness_AStart_blank_store : State.reset.nv.check ≠ some State.reset.nv.image.check := by decide +kernel

theorem witness_Save_idle : State.reset.MayRequest .b .save ∧ State.reset.nv.writing = none := by decide +kernel

theorem witness_Save_writing :
    let s := after (.responseEnd .b) (after (.save .b) State.reset)
    s.MayRequest .b .save ∧ s.nv.writing.isSome = true := by decide +kernel

theorem witness_AStoreWriteEnds : (after (.save .b) State.reset).inReset = false ∧ State.reset.nv.writing = none ∧
    (after (.save .b) State.reset).nv.writing =
      some { origin := .b, capture := defaultImage, check := defaultImage.check, remaining := 60 } := by decide +kernel

theorem witness_SavedSettings : State.reset.MayRequest .b .save ∧ State.reset.nv.writing = none ∧
    (Instr.markSeen .c 1 ≠ .save .b ∧ Instr.markSeen .c 1 ≠ .storeWriteEnd true) := by decide +kernel

theorem witness_AStoredImage : defaultImage.InRange := by decide +kernel

theorem witness_TheResetState : State.reset.nv = blankNv ∧ State.reset.pending = [] := by decide +kernel

/-! ## Witnesses: samples -/

theorem witness_Samples_discarded :
    ((settings 0 (fun ds => { ds with kind := .unused }) State.reset).dset 0).kind = .unused ∧
      (State.reset.district 0).switch = .opened ∧ ((-1 : Int) < 0) ∧ ((1023 : Int) < 1024) := by decide +kernel

theorem witness_EverySample : State.reset.inReset = false ∧ ((with0 (closed .live 10)).dset 0).kind ≠ .unused ∧
    ((with0 (closed .live 10)).district 0).switch = .closed := by decide +kernel

theorem witness_AQuietSample :
    let s := with0 (closed .live 249)
    s.SampleReaches 0 256 ∧ (s.district 0).state = .live ∧ (s.district 0).deferral = none ∧ ¬s.MeetsHard 0 256 ∧
      ¬s.MeetsSlow 0 256 := by decide +kernel

theorem witness_AQuietSample_in_grace :
    let s := with0 { closed .live 10 with grace := true }
    s.SampleReaches 0 1023 ∧ (s.district 0).state = .live ∧ (s.dset 0).kind = .plain ∧
      (s.district 0).grace = true := by decide +kernel

theorem witness_AHardCondition_excused :
    let s := with0 (closed .live 180)
    s.SampleReaches 0 500 ∧ (s.district 0).state = .live ∧ (s.dset 0).kind = .plain ∧ (s.district 0).grace = false ∧
      (s.district 0).deferral = none ∧ s.Unguarded 0 ∧ (s.district 0).mode = .lenient ∧ s.MeetsHard 0 500 ∧
      ¬s.MeetsSlow 0 500 := by decide +kernel

theorem witness_AHardCondition_and_slow :
    let s := with0 (closed .live 240)
    s.SampleReaches 0 520 ∧ s.Unguarded 0 ∧ (s.district 0).mode = .lenient ∧ s.MeetsHard 0 520 ∧
      s.MeetsSlow 0 520 := by decide +kernel

theorem witness_ATrip_hard :
    let s := with0 { closed .live 10 with mode := .strict }
    s.SampleReaches 0 500 ∧ (s.district 0).state = .live ∧ (s.district 0).grace = false ∧
      (s.district 0).deferral = none ∧ s.Unguarded 0 ∧ (s.dset 0).kind = .plain ∧ (s.district 0).mode = .strict ∧
      s.MeetsHard 0 500 := by decide +kernel

theorem witness_ATrip_slow_reversing :
    let s := (loop State.reset).setDistrict 1 (closed .live 250)
    s.SampleReaches 1 499 ∧ (s.district 1).state = .live ∧ (s.district 1).grace = false ∧
      (s.district 1).deferral = none ∧ s.Unguarded 1 ∧ ¬s.MeetsHard 1 499 ∧ s.MeetsSlow 1 499 ∧
      (s.dset 1).swapOnSlow = false := by decide +kernel

theorem witness_ASoak_goes_on :
    let s := with0 (soaking (soakOf .individual 38 1999 500) 20)
    s.SampleReaches 0 21 ∧ (s.district 0).state = .soaking ∧
      (s.district 0).soak = some (soakOf .individual 38 1999 500) ∧ ¬s.MeetsHard 0 21 ∧
      (soakOf .individual 38 1999 500).sumWith (s.dset 0).h 21 ≤ (s.dset 0).q ∧
      (soakOf .individual 38 1999 500).n + 1 ≠ (s.dset 0).w := by decide +kernel

theorem witness_ASoak_passes :
    let s := with0 (soaking (soakOf .individual 39 1122 500) 20)
    s.SampleReaches 0 20 ∧ ¬s.MeetsHard 0 20 ∧
      (soakOf .individual 39 1122 500).sumWith (s.dset 0).h 20 ≤ (s.dset 0).q ∧
      (soakOf .individual 39 1122 500).n + 1 = (s.dset 0).w ∧ (s.district 0).averageWith 20 ≤ (s.dset 0).h ∧
      (soakOf .individual 39 1122 500).origin = .individual ∧ s.RecordsLawful := by decide +kernel

/-- Districts 1 and 2 wait in the queue of feed 0, whose one slot and 500 of its pool district 0 holds. -/
def queued2 (r : District) : State :=
  (((with0 r).setDistrict 1 (resetDistrict .queued)).setDistrict 2 (resetDistrict .queued)).modFeed 0 (fun x =>
    { x with queue := [1, 2], pool := 500, slots := 1 })

theorem witness_FeedSettles_grants :
    let s := queued2 (soaking (soakOf .individual 39 1122 500) 20)
    let u := ((s.recorded 0 20).soakPassedAt 0 (soakOf .individual 39 1122 500) 1122).costReturned 0
      (soakOf .individual 39 1122 500)
    s.RecordsLawful ∧ (u.feed 0).applyDeferred = false ∧ u.GrantsAre 0 [1] [2] ∧ s.GrantsAre 0 [] [1, 2] := by decide +kernel

theorem witness_FeedSettles_copies :
    let s := (queued2 (soaking (soakOf .individual 39 1122 500) 20)).modFeed 0 (fun x => { x with applyDeferred := true })
    let u := ((s.recorded 0 20).soakPassedAt 0 (soakOf .individual 39 1122 500) 1122).costReturned 0
      (soakOf .individual 39 1122 500)
    (u.feed 0).applyDeferred = true ∧ (∀ d, u.feedOfDistrict d = 0 → (u.district d).state ≠ .soaking) ∧
      (u.feedCopied 0).GrantsAre 0 [1] [2] ∧ (s.feed 0).applyDeferred = true ∧
      (s.feedOfDistrict 0 = 0 ∧ (s.district 0).state = .soaking) := by decide +kernel

theorem witness_DistrictSettles :
    let s := with0 { closed .live 10 with applyDeferred := true }
    (s.district 0).applyDeferred = true ∧ (s.district 0).state ≠ .soaking ∧ (s.district 0).state ≠ .swapping ∧
      (s.district 0).state ≠ .swapCheck ∧ (State.reset.district 0).applyDeferred = false := by decide +kernel

theorem witness_ASoakFails :
    let s := with0 (soaking (soakOf .individual 39 2000 500) 24)
    s.SampleReaches 0 500 ∧ (s.district 0).state = .soaking ∧
      (s.district 0).soak = some (soakOf .individual 39 2000 500) ∧ s.RecordsLawful ∧ s.MeetsHard 0 500 ∧
      ¬s.MeetsHard 0 21 ∧ (s.dset 0).q < (soakOf .individual 39 2000 500).sumWith (s.dset 0).h 21 ∧
      (soakOf .individual 39 2000 500).sumWith (s.dset 0).h 20 ≤ (s.dset 0).q ∧
      (soakOf .individual 39 2000 500).n + 1 = (s.dset 0).w ∧ (s.dset 0).h < (s.district 0).averageWith 20 := by
  decide +kernel

/-- Feed 0 walks entry 0 with members 0 and 1 in flight; 0 is at sample 39. -/
def walked : State :=
  (((walking 0 .walking .inEntry (.entry 0) State.reset).setDistrict 0 (soaking (soakOf (.walk 0) 39 0 400) 10)).setDistrict
    1 (soaking (soakOf (.walk 0) 5 0 400) 10)).modWalk 0 (fun w =>
      { w with inFlight := [{ district := 0, place := 0 }, { district := 1, place := 1 }], entryAdmitted := true })

theorem witness_AWalkSoakEnd :
    walked.SampleReaches 0 10 ∧ walked.SampleReaches 0 1023 ∧ (walked.district 0).state = .soaking ∧
      (walked.district 0).soak = some (soakOf (.walk 0) 39 0 400) ∧ SoakOrigin.walk 0 ≠ .individual ∧
      walked.feedOfDistrict 0 = 0 ∧ walked.RecordsLawful ∧ (walked.walk 0).phase = .inEntry ∧
      walked.MeetsHard 0 1023 ∧ ¬walked.MeetsHard 0 10 ∧ (walked.district 0).averageWith 10 ≤ (walked.dset 0).h ∧
      (soakOf (.walk 0) 39 0 400).n + 1 = (walked.dset 0).w := by decide +kernel

theorem witness_AWalkSoakEnd_excess_or_unsettled :
    let c := soakOf (.walk 0) 39 2000 400
    let s := walked.setDistrict 0 (soaking c 24)
    s.SampleReaches 0 21 ∧ s.SampleReaches 0 20 ∧ (s.district 0).soak = some c ∧ c.origin ≠ .individual ∧
      s.RecordsLawful ∧ ¬s.MeetsHard 0 21 ∧ (s.dset 0).q < c.sumWith (s.dset 0).h 21 ∧ ¬s.MeetsHard 0 20 ∧
      c.sumWith (s.dset 0).h 20 ≤ (s.dset 0).q ∧ c.n + 1 = (s.dset 0).w ∧
      (s.dset 0).h < (s.district 0).averageWith 20 := by decide +kernel

/-- After the notice of district 0 the walk goes on, district 1 being still in flight. -/
theorem witness_Notified_goes_on :
    let u := walked.noticed 0 0 .passed
    (u.walk 0).waiting = false ∧ (u.walk 0).inFlight ≠ [] ∧ (walked.walk 0).phase = .inEntry ∧
      (State.reset.walk 0).phase = .idle := by decide +kernel

/-- Feed 0 works entry 0 with the members 0, 3 and 1, of which 0 has ended its soak, 3 is OFF and 1 is DARK. -/
def retried (waiting : Bool) (pos : Nat) : State :=
  entry 0 { defaultEntry with members := [0, 3, 1], pause := 50 }
    (((walking 0 .walking .inEntry (.entry 0) State.reset).setDistrict 1 (resetDistrict .dark)).modWalk 0 (fun w =>
      { w with waiting := waiting, memberPos := pos, entryAdmitted := true }))

theorem witness_Works_retries :
    let u := retried true 1
    (u.feed 0).state = .walking ∧ (u.walk 0).waiting = true ∧ (u.walk 0).memberPos ≤ (u.members 0).length ∧
      (u.members 0).drop (u.walk 0).memberPos = [3, 1] ++ [] ∧ u.Passes 0 [3, 1] [] ∧
      ((u.passed 0 [3, 1] []).walk 0).inFlight ≠ [] := by decide +kernel

theorem witness_Works_waits :
    let u := (retried true 1).modFeed 0 (fun x => { x with pool := 400 })
    (u.members 0).drop (u.walk 0).memberPos = [3] ++ [1] ∧ u.Passes 0 [3] [1] := by decide +kernel

/-- Entry 0 lists district 1 three times: its second and third listings are skipped, as it soaks from the first on. -/
theorem witness_Works_a_member_listed_again :
    let u := entry 0 { defaultEntry with members := [0, 1, 1, 1] } (retried true 1)
    (u.members 0).drop (u.walk 0).memberPos = [1, 1, 1] ++ [] ∧ u.Passes 0 [1, 1, 1] [] ∧
      ((u.passed 0 [1, 1, 1] []).walk 0).inFlight = [{ district := 1, place := 1 }] ∧
      ((u.passed 0 [1, 1, 1] []).walk 0).memberPos = 4 := by decide +kernel

/-- R126: of an entry that lists district 1 twice, only the first listing is admitted, and admission finishes. -/
theorem test_a_member_listed_again_is_skipped :
    let t := (entry 0 { defaultEntry with members := [0, 1, 1, 1] } (retried true 1)).runAdmission 0
    (t.walk 0).inFlight = [{ district := 1, place := 1 }] ∧ (t.walk 0).memberPos = 4 ∧ (t.walk 0).admitted = 1 := by
  decide +kernel

theorem witness_Works_all_skipped :
    let u := (retried true 1).setDistrict 1 (resetDistrict .off)
    (u.members 0).drop (u.walk 0).memberPos = [3, 1] ++ [] ∧ u.Passes 0 [3, 1] [] ∧
      ((u.passed 0 [3, 1] []).walk 0).inFlight = [] := by decide +kernel

theorem witness_Works_foreign_halts :
    let s := settings 3 (fun ds => { ds with feed := 1 }) (retried true 1)
    let u := { s with activeImage := s.activeImage.withFeed 0 { s.fset 0 with haltOnError := true } }
    (u.members 0).drop (u.walk 0).memberPos = [] ++ 3 :: [1] ∧ u.Passes 0 [] [] ∧ (u.fset 0).haltOnError = true ∧
      u.feedOfDistrict 3 ≠ 0 ∧ s.Passes 0 [3, 1] [] := by decide +kernel

theorem witness_Completes :
    let u := retried false 3
    (u.walk 0).waiting = false ∧ (u.walk 0).inFlight = [] ∧ (u.walk 0).memberPos = (u.members 0).length ∧
      (u.feed 0).state ≠ .walkHalted ∧ 0 < u.pauseAfter 0 ∧ (u.walk 0).entryAdmitted = true ∧
      (entry 0 { defaultEntry with members := [0, 3, 1] } u).pauseAfter 0 = 0 ∧
      ((u.modFeed 0 (fun x => { x with state := .walkHalted })).feed 0).state = .walkHalted := by decide +kernel

theorem witness_ASwap_trigger :
    let s := ((loop State.reset).setDistrict 1 (closed .live 10)).setDistrict 0 (closed .live 10)
    s.SampleReaches 1 500 ∧ (s.district 1).state = .live ∧ (s.dset 1).kind = .reversing ∧
      (s.district 1).grace = false ∧ (s.district 1).deferral = none ∧ s.MeetsHard 1 500 ∧
      s.activeImage.partnerOf 1 = some 0 ∧ (s.district 0).state = .live := by decide +kernel

theorem witness_ASwap_without_a_live_partner :
    let s := settings 1 (fun ds => { ds with swapOnSlow := true }) ((loop State.reset).setDistrict 1 (closed .live 250))
    s.SampleReaches 1 250 ∧ (s.dset 1).kind = .reversing ∧ s.MeetsSlow 1 250 ∧ (s.dset 1).swapOnSlow = true ∧
      ∀ p, s.activeImage.partnerOf 1 = some p → (s.district p).state ≠ .live := by decide +kernel

/-- R79: districts 1 and 2 are REVERSING and name the PLAIN district 0, which is the lower one's partner alone; district
3 names itself and district 4 the REVERSING district 1, and neither has a partner. -/
theorem witness_ASwap_partner :
    let i := ((settings 4 (fun ds => { ds with kind := .reversing, partner := some 1 })
      (settings 3 (fun ds => { ds with kind := .reversing, partner := some 3 })
        (settings 2 (fun ds => { ds with kind := .reversing, partner := some 0 }) (loop State.reset))))).activeImage
    i.partnerOf 1 = some 0 ∧ i.partnerOf 2 = none ∧ i.partnerOf 3 = none ∧ i.partnerOf 4 = none ∧
      i.guardianOf 0 = some 1 := by decide +kernel

theorem witness_ASwap_dead_time :
    let s := (loop State.reset).setDistrict 1
      { resetDistrict .swapping with preSwap := some .normal, polarity := .swapped, deadTime := some 0 }
    s.inReset = false ∧ (s.district 1).Lawful ∧ (s.district 1).deadTime = some 0 ∧ (s.district 2).deadTime ≠ some 0 ∧
      (s.district 2).Lawful := by decide +kernel

theorem witness_ASwapCheck :
    let s := (loop State.reset).setDistrict 1 (checking 39 10)
    s.SampleReaches 1 10 ∧ s.SampleReaches 1 500 ∧ (s.district 1).state = .swapCheck ∧
      (s.district 1).checkCount = some 39 ∧ (s.district 1).preSwap = some .normal ∧
      s.RecordsLawful ∧ ¬s.MeetsHard 1 10 ∧ ¬s.MeetsSlow 1 10 ∧
      39 + 1 = (s.dset 1).checkWindow ∧ s.MeetsHard 1 500 := by decide +kernel

theorem witness_ASwapCheck_goes_on_or_fails_slow :
    let s := (loop State.reset).setDistrict 1 (checking 0 250)
    s.SampleReaches 1 249 ∧ ¬s.MeetsHard 1 249 ∧ ¬s.MeetsSlow 1 249 ∧ 0 + 1 ≠ (s.dset 1).checkWindow ∧
      ¬s.MeetsHard 1 250 ∧ s.MeetsSlow 1 250 := by decide +kernel

theorem witness_APartner_defers :
    let s := ((loop State.reset).setDistrict 1 (closed .live 10)).setDistrict 0 (closed .live 248)
    s.SampleReaches 0 500 ∧ (s.district 0).state = .live ∧ (s.dset 0).kind = .plain ∧ (s.district 0).grace = false ∧
      s.activeImage.partnerOf 1 = some 0 ∧ (s.district 1).state = .live ∧ (s.district 0).deferral = none ∧
      s.MeetsHard 0 500 ∧ ¬s.MeetsHard 0 264 ∧ s.MeetsSlow 0 264 := by decide +kernel

theorem witness_APartner_resolves :
    let s := ((loop State.reset).setDistrict 1 (closed .live 10)).setDistrict 0
      { closed .live 10 with deferral := some { cause := .hard, figure := 600 } }
    s.SampleReaches 0 10 ∧ (s.district 0).state = .live ∧ (s.dset 0).kind = .plain ∧ (s.district 0).grace = false ∧
      (s.district 0).deferral = some { cause := .hard, figure := 600 } ∧ (s.district 0).mode = .lenient ∧
      ¬s.MeetsHard 0 10 ∧ ¬s.MeetsSlow 0 10 := by decide +kernel

theorem witness_APartner_resolves_and_evaluates :
    let s := (State.reset.setDistrict 1 (closed .live 10)).setDistrict 0
      { closed .live 248 with deferral := some { cause := .hard, figure := 600 } }
    let g := loop s
    s.SampleReaches 0 500 ∧ (s.dset 0).kind = .plain ∧ (s.district 0).mode = .lenient ∧ s.Unguarded 0 ∧
      s.MeetsHard 0 500 ∧ ¬s.MeetsHard 0 264 ∧ s.MeetsSlow 0 264 ∧ g.SampleReaches 0 500 ∧
      g.activeImage.partnerOf 1 = some 0 ∧ (g.district 1).state = .live ∧ g.MeetsHard 0 500 ∧ ¬g.MeetsHard 0 264 ∧
      g.MeetsSlow 0 264 ∧ (g.district 0).deferral = some { cause := .hard, figure := 600 } := by decide +kernel

/-! ## Witnesses: timers and feeds -/

/-- A TRIPPED district whose cool-down has run out. -/
def cooled : District := { resetDistrict .tripped with coolDown := some 0 }

theorem witness_Settling : ((with0 { closed .live 10 with settle := some 0 }).district 0).Lawful ∧
    ((with0 { closed .live 10 with settle := some 0 }).district 0).settle = some 0 ∧
    (State.reset.district 0).settle ≠ some 0 ∧ (State.reset.district 0).coolDown ≠ some 0 := by decide +kernel

theorem witness_Cooling_granted :
    let s := with0 cooled
    s.inReset = false ∧ (s.district 0).Lawful ∧ s.feedOfDistrict 0 = 0 ∧ (s.district 0).coolDown = some 0 ∧
      (s.queuedAt 0 0).GrantsAre 0 [0] [] := by decide +kernel

theorem witness_Cooling_waits :
    let s := queued2 cooled
    (s.district 0).Lawful ∧ (s.queuedAt 0 0).GrantsAre 0 [] [1, 2, 0] ∧
      ((s.modFeed 0 (fun x => { x with state := .walking })).queuedAt 0 0).GrantsAre 0 [] [1, 2, 0] := by
  decide +kernel

/-- The debounce of feed 0 has run out. -/
def risen (s : State) : State := s.modFeed 0 (fun x => { x with debounce := some 0 })

theorem witness_ARisingLine :
    (State.reset.feed 0).raw = .healthy ∧ (State.reset.feed 0).accepted = .faulted ∧
      ((risen State.reset).feed 0).debounce = some 0 ∧ (State.reset.feed 0).debounce ≠ some 0 ∧
      (∀ d, (risen State.reset).feedOfDistrict d = 0 → ((risen State.reset).district d).state ≠ .dark) ∧
      ((after (.lineChange 0 .faulted) State.reset).feed 0).raw = .faulted ∧
      ((after (.lineChange 0 .faulted) State.reset).feed 0).debounce = none := by decide +kernel

theorem witness_AFault :
    let s := with0 (closed .live 300)
    s.inReset = false ∧ (s.feed 0).raw = .healthy ∧ (s.feed 0).accepted = .healthy ∧
      s.RecordsLawful ∧ (s.feed 0).state = .up := by decide +kernel

theorem witness_ChainsSettled : ∀ f : FeedId, (State.reset.feed f).state ≠ .walking ∧
    (State.reset.feed f).state ≠ .walkHalted := by decide +kernel

theorem witness_AFault_on_a_walk :
    (walked.feed 0).raw = .healthy ∧ (walked.feed 0).accepted = .healthy ∧
      walked.RecordsLawful ∧
      (walked.feed 0).state = .walking := by decide +kernel

/-- Districts 0 to 2 are DARK on the DOWN feed 0, whose chain head is entry 0 with these members. -/
def chained (members : List DistrictId) : State :=
  let s := [0, 1, 2].foldl (fun (s : State) (d : DistrictId) => s.setDistrict d (resetDistrict .dark)) State.reset
  risen (entry 0 { defaultEntry with members := members }
    { s with activeImage := s.activeImage.withFeed 0 { s.fset 0 with chainHead := some 0 } })

theorem witness_ARecoveredFeed_chain :
    let s := chained [0, 1]
    s.inReset = false ∧ (s.feed 0).debounce = some 0 ∧ s.RecordsLawful ∧ s.inState 0 .dark ≠ [] ∧
      s.BeginsAt 0 (.entry 0) ∧ (s.walk 0).stepCount + 1 < 65 ∧ (s.activeImage.entry 0).members ≠ [] ∧
      (s.activeImage.entry 0).feed = 0 := by decide +kernel

theorem witness_ARecoveredFeed_default :
    let s := risen (State.reset.setDistrict 0 (resetDistrict .dark))
    s.BeginsAt 0 (.district 0) ∧ s.RecordsLawful ∧ s.inState 0 .dark ≠ [] ∧
      (s.feed 0).debounce = some 0 := by decide +kernel

/-- Feed 0 pauses after entry 0, whose link is `link`; entry 1 has the one member 2. -/
def paused (link : Option EntryId) : State :=
  (entry 1 { defaultEntry with members := [2] } (entry 0 { defaultEntry with members := [0], pause := 50, link := link }
    (walking 0 .walking .pausing (.entry 0) State.reset))).modWalk 0 (fun w => { w with pause := some 0 })

theorem witness_APause :
    (paused none).inReset = false ∧ (paused none).RecordsLawful ∧ ((paused none).walk 0).phase = .pausing ∧
      ((paused none).walk 0).pause = some 0 ∧ (paused none).nextPosition 0 = none ∧
      (paused (some 5)).nextPosition 0 = some (.entry 5) ∧ ((paused (some 5)).activeImage.entry 5).members = [] ∧
      (paused (some 1)).nextPosition 0 = some (.entry 1) ∧ ((paused (some 1)).activeImage.entry 1).feed = 0 ∧
      ((paused (some 1)).walk 0).stepCount + 1 < 65 ∧ (State.reset.walk 0).phase ≠ .pausing := by decide +kernel

theorem witness_APause_65th_visit :
    let s := (paused (some 1)).modWalk 0 (fun w => { w with stepCount := 64 })
    65 ≤ (s.walk 0).stepCount + 1 ∧ ¬(65 ≤ ((paused (some 1)).walk 0).stepCount + 1) := by decide +kernel

/-- District 2 is DARK without a suspicion, district 1 with two, and district 0 waits in the queue. -/
theorem witness_EndingAWalk :
    let s := ((((walking 0 .walking .inEntry (.entry 0) State.reset).setDistrict 2 (resetDistrict .dark)).setDistrict 1
      { resetDistrict .dark with suspect := 2 }).setDistrict 0 (resetDistrict .queued)).modFeed 0 (fun x =>
      { x with queue := [0] })
    s.MayRequest .b .endWalk ∧ (s.feed 0).state = .walking ∧ s.RecordsLawful ∧
      (s.walkOver 0 (.port .b) .command).GrantsAre 0 [0] [2] ∧
      ((s.walkOver 0 (.port .b) .command).district 1).state = .latched ∧
      (State.reset.feed 0).state ≠ .walking ∧ (State.reset.feed 0).state ≠ .walkHalted := by decide +kernel

theorem witness_Walks_halt_and_resume :
    let s := paused none
    let t := entry 0 { defaultEntry with members := [0], pause := 1, keepPause := true }
      (walking 0 .walkHalted .entryHeld (.entry 0) State.reset)
    s.MayRequest .b .haltWalk ∧ s.MayRequest .b .clearWalkErrors ∧ (s.feed 0).state = .walking ∧
      t.MayRequest .b .resumeWalk ∧ (t.feed 0).state = .walkHalted ∧ (t.walk 0).phase = .entryHeld ∧
      t.RecordsLawful ∧ 0 < t.pauseAfter 0 ∧ t.keepPause 0 = true := by decide +kernel

theorem witness_Walks_resume_a_link_or_an_entry :
    let t := entry 0 { defaultEntry with members := [0] } (walking 0 .walkHalted .entryHeld (.entry 0) State.reset)
    let u := (retried true 1).modFeed 0 (fun x => { x with state := .walkHalted })
    t.MayRequest .b .resumeWalk ∧ (t.feed 0).state = .walkHalted ∧ (t.walk 0).phase = .entryHeld ∧
      t.pauseAfter 0 = 0 ∧ t.RecordsLawful ∧ u.MayRequest .b .resumeWalk ∧ (u.feed 0).state = .walkHalted ∧
      (u.walk 0).phase = .inEntry ∧ (u.walk 0).memberPos ≤ (u.members 0).length ∧ u.RecordsLawful := by decide +kernel

theorem witness_CycleFeed :
    let s := (queued2 { closed .live 10 with applyDeferred := true }).modFeed 0 (fun x => { x with pool := 0, slots := 0 })
    s.MayRequest .b .cycleFeed ∧ (s.feed 0).state = .up ∧ s.RecordsLawful ∧
      (∀ d, s.feedOfDistrict d = 0 → (s.district d).state ≠ .soaking) ∧
      (∀ d ∈ (s.feed 0).queue, s.feedOfDistrict d = 0 ∧ (s.district d).state = .queued) ∧
      s.BeginsAt 0 (.district 0) ∧ (State.reset.feed 0).state ≠ .up := by decide +kernel

/-- No district's settings name feed 3, so a default walk of it has no first position. -/
theorem witness_CycleFeed_without_a_position :
    let s := [12, 13, 14, 15].foldl (fun (s : State) (d : DistrictId) => settings d (fun ds => { ds with feed := 0 }) s)
      (up 3 State.reset)
    s.MayRequest .b .cycleFeed ∧ (s.feed 3).state = .up ∧ s.RecordsLawful ∧
      (∀ d, s.feedOfDistrict d = 3 → (s.district d).state ≠ .soaking) ∧ (s.feed 3).queue = [] ∧
      (s.fset 3).chainHead = none ∧ s.districtsOf 3 = [] := by decide +kernel

/-! ## Witnesses: reads and commands -/

theorem witness_Reads : State.reset.MayRequest .a .readDistrict ∧ State.reset.MayRequest .a .readDistrictStats ∧
    State.reset.MayRequest .a .readFeed ∧ State.reset.MayRequest .a .readQueue ∧
    State.reset.MayRequest .a .readSettings ∧ State.reset.MayRequest .a .readChainEntry ∧
    State.reset.MayRequest .a .readSnapshot ∧ State.reset.MayRequest .a .readPortStatus ∧
    State.reset.MayRequest .a .setAttention := by decide +kernel

theorem witness_ReadChainEntry : (State.reset.activeImage.entry 63).members.length ≤ 4 := by decide +kernel

theorem witness_NamesOutOfRange :
    encodeRequest (.readDistrict .a 16) = some (.a, .readDistrict, [16]) ∧ 15 < (16 : Byte).toNat ∧
      encodeRequest (.readSettings .a 1 4 0) = some (.a, .readSettings, [1, 4, 0]) ∧ 3 < (4 : Byte).toNat ∧
      encodeRequest (.readEvents .a 9) = some (.a, .readEvents, [9]) ∧ 8 < (9 : Byte).toNat := by decide

theorem witness_ReadEvents : State.reset.MayRequest .a .readEvents ∧ 1 ≤ (8 : Byte).toNat ∧ (8 : Byte).toNat ≤ 8 ∧
    1 = min (8 : Byte).toNat (State.reset.port .a).unread := by decide +kernel

/-- R165: the oldest unread entry of port A after reset is POWER-UP. -/
theorem witness_ReadEvents_oldest : ∃ oldest : Nat → Entry, (∀ j, oldest j =
    State.reset.ring.entries[((State.reset.port .a).cursor + Fin.ofNat 128 j).val]'
      (((State.reset.port .a).cursor + Fin.ofNat 128 j).isLt)) ∧ (oldest 0).kind = 1 ∧ (oldest 0).subject = 0xFF :=
  ⟨_, fun _ => rfl, by decide +kernel⟩

theorem witness_PortStatus : (1 : Byte).toNat ≤ 1 ∧ 4 < (5 : Byte).toNat ∧ (4 : Byte).toNat ≤ 4 := by decide

theorem witness_MaskCommands : State.reset.MayRequest .b .releaseForeign ∧ (2 : Byte).toNat ≤ 2 ∧
    State.reset.MayRequest .c .enable ∧ (0x8000 : Half).getLsbD 15 = true := by decide +kernel

theorem witness_Marks : State.reset.MayRequest .c .markSeen ∧ State.reset.MayRequest .c .release ∧
    State.reset.MayRequest .b .releaseForeign ∧ State.reset.MayRequest .b .resetStats := by decide +kernel

theorem witness_HoldAndDisable :
    let s := with0 (closed .live 10)
    s.MayRequest .c .hold ∧ s.MayRequest .c .disable ∧
      (∀ d, s.handles 0x0003 d = true → (s.district d).Lawful ∧ (s.district d).applyDeferred = false ∧
        (s.district d).state ≠ .soaking ∧ (s.district d).state ≠ .swapping ∧ (s.district d).state ≠ .swapCheck ∧
        (s.district d).state ≠ .queued) ∧ s.handles 0x0003 0 = true := by decide +kernel

theorem witness_Disable_a_soak :
    let s := queued2 (soaking (soakOf .individual 5 100 500) 10)
    (1 : Half) = 1 <<< (0 : DistrictId).val ∧ (2 : Half) = 1 <<< (1 : DistrictId).val ∧ (s.dset 0).kind ≠ .unused ∧
      s.RecordsLawful ∧ s.feedOfDistrict 0 = 0 ∧ (s.district 0).state = .soaking ∧
      (s.district 0).soak = some (soakOf .individual 5 100 500) ∧ s.MayRequest .c .disable ∧
      s.MayRequest .c .hold ∧ (s.district 1).state = .queued := by decide +kernel

/-- Of the mask 7, district 0 soaks and 1 and 2 wait in the queue; both commands act on all three. -/
theorem witness_Disable_several :
    let s := queued2 (soaking (soakOf .individual 5 100 500) 10)
    s.RecordsLawful ∧ s.MayRequest .c .disable ∧ s.MayRequest .c .hold ∧
      (allDistricts.filter (fun d => s.handles 0x0007 d && decide ((s.district d).state ≠ .off))) = [0, 1, 2] ∧
      (allDistricts.filter (fun d => s.handles 0x0007 d && !((s.district d).holds.has .c &&
        decide ((s.district d).state = .off)))) = [0, 1, 2] := by decide +kernel

/-- R11, R111: the soak's end grants district 1, which is then taken to OFF itself, and so on: no one is left soaking,
pool and slots are free. -/
theorem test_disable_of_a_soak_and_the_queue :
    let t := after (.disable .c 0x0007) (queued2 (soaking (soakOf .individual 5 100 500) 10))
    (t.feed 0).queue = [] ∧ (t.feed 0).pool = 0 ∧ (t.feed 0).slots = 0 ∧ (t.district 0).state = .off ∧
      (t.district 1).state = .off ∧ (t.district 2).state = .off := by decide +kernel

theorem witness_Disable_a_swap :
    let s := (loop State.reset).setDistrict 1 (checking 5 10)
    (2 : Half) = 1 <<< (1 : DistrictId).val ∧ (s.dset 1).kind ≠ .unused ∧ s.RecordsLawful ∧
      (s.district 1).state = .swapCheck ∧ s.MayRequest .c .disable ∧ s.MayRequest .c .hold ∧
      s.activeImage.partnerOf 1 = some 0 := by decide +kernel

theorem witness_EnableAndClear_dark :
    let s := State.reset.setDistrict 1 (resetDistrict .latched)
    (∀ d, s.handles 0x0003 d = true → (s.district d).Lawful ∧ (s.feed (s.feedOfDistrict d)).state ≠ .up) ∧
      s.MayRequest .c .enable ∧ s.MayRequest .c .clear ∧ (s.district 0).state = .off ∧
      (s.district 0).holds = noHolds ∧ (s.district 1).state = .latched := by decide +kernel

/-- On the UP feed 0: district 0 is OFF, 1 LATCHED, 2 held by port A, 3 LIVE. -/
def returning : State :=
  (((with0 (resetDistrict .off)).setDistrict 1 (resetDistrict .latched)).setDistrict 2
    { resetDistrict .off with holds := { a := true, b := false, c := false } }).setDistrict 3 (closed .live 10)

theorem witness_EnableAndClear_up :
    returning.MayRequest .c .enable ∧ returning.MayRequest .c .clear ∧
      (∀ d, returning.handles 0x000F d = true → (returning.district d).Lawful) ∧
      (allDistricts.filter (fun d => returning.handles 0x000F d && decide ((returning.district d).state = .off) &&
        (returning.district d).holds.isEmpty)) = [0] ∧
      (allDistricts.filter (fun d => returning.handles 0x000F d && decide ((returning.district d).state = .latched))) =
        [1] ∧
      ((returning.modDistrict 0 (fun r => { r with state := .dark, retry := 0 })).queuedAt 0 0).GrantsAre 0 [0] [] := by
  decide +kernel

/-- R10, R15: ENABLE of these four returns district 0, refuses 1 and 2 and finds nothing to do at 3; CLEAR returns 1. -/
theorem test_enable_and_clear_on_an_up_feed :
    answer .c (after (.enable .c 0x000F) returning) = some (Response.frame
      { cmd := 0x20, status := .partly, data := [1, 0, 8, 0, 6, 0] }) ∧
    answer .c (after (.clear .c 0x000F) returning) = some (Response.frame
      { cmd := 0x24, status := .ok, data := [2, 0, 13, 0, 0, 0] }) := by decide +kernel

theorem witness_Snapshots : State.reset.MayRequest .c .snapshot ∧ State.reset.MayRequest .c .snapshotKeep := by
  decide +kernel

theorem witness_SetCommands : State.reset.MayRequest .b .setDistrict ∧ State.reset.MayRequest .b .setFeed ∧
    State.reset.MayRequest .b .setChainEntry ∧ (15 : Byte).toNat ≤ 15 ∧ (4 : Byte).toNat ≤ 4 := by decide +kernel

theorem witness_Apply : State.reset.MayRequest .b .apply ∧ (15 : Byte).toNat ≤ 15 ∧ State.reset.RecordsLawful ∧
    (0x0001 : Half).getLsbD (0 : DistrictId).val = true ∧ (State.reset.district 0).state = .off := by decide +kernel

/-- The pending set of district 0, LIVE on the UP feed 0, names feed 1, which is DOWN, or 0 and REVERSING. -/
def moving (g : DistrictSet → DistrictSet) : State :=
  let s := with0 (closed .live 10)
  { s with pendingImage := s.pendingImage.withDistrict 0 (g (s.dset 0)) }

theorem witness_Copies_fresh_start :
    let s := moving (fun ds => { ds with feed := 1 })
    s.RecordsLawful ∧ (s.setCopied 0).feedOfDistrict 0 ≠ s.feedOfDistrict 0 ∧ (s.district 0).state = .live ∧
      ((s.setCopied 0).dset 0).kind ≠ .unused ∧ ((s.setCopied 0).feed 1).state ≠ .up := by decide +kernel

theorem witness_Copies_fresh_start_granted :
    let s := moving (fun ds => { ds with kind := .reversing })
    let v := (s.setCopied 0).modDistrict 0 District.faultDark
    ((s.setCopied 0).dset 0).kind ≠ (s.dset 0).kind ∧ (v.feed 0).state = .up ∧ (v.queuedAt 0 0).GrantsAre 0 [0] [] := by
  decide +kernel

theorem witness_Copies_the_same_feed_and_kind :
    let s := moving (fun ds => { ds with r := 1 })
    (s.setCopied 0).feedOfDistrict 0 = s.feedOfDistrict 0 ∧ ((s.setCopied 0).dset 0).kind = (s.dset 0).kind ∧
      (s.district 0).state ≠ .queued := by decide +kernel

theorem witness_PartnerFalls :
    let view : DistrictId → DistrictSet := fun _ => defaultDistrict 0
    ({ defaultDistrict 0 with kind := .reversing, partner := some 1 } : DistrictSet).PartnerFalls view 1 ∧
      ¬({ defaultDistrict 0 with kind := .reversing, partner := some 2 } : DistrictSet).PartnerFalls view 1 := by
  decide +kernel

theorem witness_Apply_feed :
    let s := with0 (soaking (soakOf .individual 5 100 500) 10)
    let q := queued2 (closed .live 10)
    (1 : Byte) = 1 <<< (0 : FeedId).val ∧ (s.feedOfDistrict 0 = 0 ∧ (s.district 0).state = .soaking) ∧
      (∀ d, q.feedOfDistrict d = 0 → (q.district d).state ≠ .soaking) ∧
      (({ q with activeImage := q.activeImage.withFeed 0 { q.fset 0 with s := 2, p := 1000 } }).GrantsAre 0 [1] [2]) := by
  decide +kernel

theorem witness_ApplyChains : State.reset.MayRequest .b .applyChains ∧
    (∀ f, (State.reset.feed f).state ≠ .walking ∧ (State.reset.feed f).state ≠ .walkHalted) ∧
    (walked.feed 0).state = .walking := by decide +kernel

theorem witness_AnAppend : (State.reset.port .b).role ≠ .disabled ∧ (State.reset.port .b).unread < 128 ∧
    (State.reset.port .b).lost ≤ 255 ∧ 128 ≤ ((portB (fun q => { q with unread := 128 }) State.reset).port .b).unread := by
  decide +kernel

/-! ## Witnesses: invariants -/

/-- The reset state meets every invariant, and a step of it answers a next state (log 2). -/
theorem witness_EveryStepKeeps : State.reset.DistrictsLawful ∧ State.reset.GraceLaw ∧ State.reset.FeedsLawful ∧
    State.reset.DarkLaw ∧ State.reset.QueueLaw ∧ State.reset.PoolLaw ∧ State.reset.WaitingLaw ∧
    State.reset.SettingsLawful ∧ State.reset.PortsLawful := by decide +kernel

theorem witness_EveryStepKeeps_steps : step State.reset = .next State.reset.idle := by
  have h : State.reset.dueCommand = none := by decide +kernel
  simp only [step, h]
  rfl

end Sys2Proof.Tests
end

section
/-! # District records: what each change of a record keeps (R2 to R7, R21, R25, R30, R31, R40, R58, R62, R78, R100) -/

namespace Sys2Proof.Machine

/-! ## The laws of a record -/

/-- The laws that do not speak of the state of the district: window, suspect count, statistics and figures. -/
structure District.Stable (r : District) : Prop where
  window : r.WindowLaw
  suspect : r.suspect ≤ 2
  stats : r.stats.InRange
  acct : r.acct.InRange

theorem District.Lawful.stable {r : District} (h : r.Lawful) : r.Stable := by
  obtain ⟨-, -, -, hw, hs, hst, ha⟩ := h
  exact ⟨hw, hs, hst, ha⟩

/-- A lawful district that is not OFF is held by no port (R4). -/
theorem District.Lawful.no_holds {r : District} (h : r.Lawful) (hr : r.state ≠ .off) :
    ¬(r.holds.a = true ∨ r.holds.b = true ∨ r.holds.c = true) := fun k => hr (h.2.1 k)

/-- A hold set without a mark. -/
theorem HoldSet.not_marked_of_isEmpty {h : HoldSet} (he : h.isEmpty = true) :
    ¬(h.a = true ∨ h.b = true ∨ h.c = true) := by
  simp only [HoldSet.isEmpty, Bool.and_eq_true, Bool.not_eq_true'] at he
  obtain ⟨⟨ha, hb⟩, hc⟩ := he
  simp [ha, hb, hc]

/-- A state change clears an opened window and keeps any other. -/
theorem District.enter_windowLaw {r : District} (h : r.WindowLaw) (st : DState) : (r.enter st).WindowLaw := by
  obtain ⟨hlen, hle, hsum, hfill, hopen⟩ := h
  by_cases hc : r.switch = .closed ∧ st.energised = false
  · refine ⟨?_, ?_, ?_, ?_, ?_⟩ <;> simp [hc, clearedWindow]
  · refine ⟨by simp [hc, hlen], by simpa [hc] using hle, by simp [hc, hsum], by simp [hc, hfill], fun ho => ?_⟩
    have hst : st.energised = false := by
      cases he : st.energised <;> simp_all
    have hopened : r.switch = .opened := by
      cases hs : r.switch
      · rfl
      · exact absurd ⟨hs, hst⟩ hc
    simpa [hc] using hopen hopened

theorem District.enter_stable {r : District} (h : r.Stable) (st : DState) : (r.enter st).Stable :=
  ⟨District.enter_windowLaw h.window st, by simpa using h.suspect, by simpa using h.stats, by simpa using h.acct⟩

/-- A district that changes state is lawful where the fields its new state holds are there (R2, R4, R6). -/
theorem District.enter_lawful {r : District} {st : DState} (h : r.Stable)
    (hholds : st = .off ∨ ¬(r.holds.a = true ∨ r.holds.b = true ∨ r.holds.c = true))
    (hsoak : st = .soaking → r.soak.isSome = true) (hswap : st.isSwap = true → r.preSwap.isSome = true)
    (hcheck : st = .swapCheck → r.checkCount.isSome = true) : (r.enter st).Lawful := by
  obtain ⟨hw, hs, hst, ha⟩ := District.enter_stable h st
  refine ⟨?_, ?_, ⟨?_, ?_, ?_, ?_, ?_, ?_, ?_, ?_⟩, hw, hs, hst, ha⟩
  · cases st <;> simp [DState.energised]
  · simpa using fun k => hholds.resolve_right (fun h' => h' k)
  · cases st <;> simp_all
  · cases st <;> simp_all [DState.isSwap]
  · cases st <;> simp_all
  all_goals cases st <;> simp [DState.settles]

/-- A district that comes to rest in a state without fields of its own, or returns to LIVE, is lawful. -/
theorem District.enter_rest_lawful {r : District} {st : DState} (h : r.Lawful)
    (hst : st = .off ∨ st = .dark ∨ st = .live ∨ st = .tripped ∨ st = .queued ∨ st = .latched)
    (hholds : st = .off ∨ r.state ≠ .off ∨ r.holds.isEmpty = true) : (r.enter st).Lawful := by
  refine District.enter_lawful h.stable ?_ ?_ ?_ ?_
  · rcases hholds with k | k | k
    · exact .inl k
    · exact .inr (h.no_holds k)
    · exact .inr (HoldSet.not_marked_of_isEmpty k)
  all_goals rcases hst with rfl | rfl | rfl | rfl | rfl | rfl <;> simp [DState.isSwap]

theorem District.startSoak_eq_enter (r : District) (origin : SoakOrigin) (cost : Nat) :
    r.startSoak origin cost = ({ r with soak := some { origin := origin, n := 0, e := 0, cost := cost } }).enter .soaking := by
  unfold District.startSoak District.enter
  simp only [DState.energised, Bool.true_eq_false, and_false, if_false, if_true]

/-- A soak starts lawfully at a district that is not OFF (R58). -/
theorem District.startSoak_lawful {r : District} (h : r.Lawful) (hr : r.state ≠ .off) (origin : SoakOrigin)
    (cost : Nat) : (r.startSoak origin cost).Lawful := by
  rw [District.startSoak_eq_enter]
  obtain ⟨hw, hs, hst, ha⟩ := h.stable
  exact District.enter_lawful ⟨hw, hs, hst, ha⟩ (.inr (h.no_holds hr)) (fun _ => rfl) (by simp [DState.isSwap]) (by simp)

theorem Counter.rise_le {c : Counter} (h : c.count ≤ 255) : c.rise.count ≤ 255 := by
  unfold Counter.rise
  split
  · simp
  · simp only; omega

section FieldLaws
variable {r : District}

theorem District.Lawful.soak_iff (h : r.Lawful) : r.soak.isSome = true ↔ r.state = .soaking := by
  obtain ⟨-, -, ⟨hsoak, -⟩, -⟩ := h; exact hsoak

theorem District.Lawful.preSwap_iff (h : r.Lawful) :
    r.preSwap.isSome = true ↔ r.state = .swapping ∨ r.state = .swapCheck := by
  obtain ⟨-, -, ⟨-, hpre, -⟩, -⟩ := h; exact hpre

theorem District.Lawful.checkCount_iff (h : r.Lawful) : r.checkCount.isSome = true ↔ r.state = .swapCheck := by
  obtain ⟨-, -, ⟨-, -, hcheck, -⟩, -⟩ := h; exact hcheck

theorem District.Lawful.live_of_deferral (h : r.Lawful) : r.deferral.isSome = true → r.state = .live := by
  obtain ⟨-, -, ⟨-, -, -, hdef, -⟩, -⟩ := h; exact hdef

theorem District.Lawful.live_of_grace (h : r.Lawful) : r.grace = true → r.state = .live := by
  obtain ⟨-, -, ⟨-, -, -, -, hgrace, -⟩, -⟩ := h; exact hgrace

theorem District.Lawful.tripped_of_coolDown (h : r.Lawful) : r.coolDown.isSome = true → r.state = .tripped := by
  obtain ⟨-, -, ⟨-, -, -, -, -, hcool, -⟩, -⟩ := h; exact hcool

theorem District.Lawful.settles_of_settle (h : r.Lawful) :
    r.settle.isSome = true → r.state = .live ∨ r.state = .swapping ∨ r.state = .swapCheck := by
  obtain ⟨-, -, ⟨-, -, -, -, -, -, hsettle, -⟩, -⟩ := h; exact hsettle

theorem District.Lawful.swapping_of_deadTime (h : r.Lawful) : r.deadTime.isSome = true → r.state = .swapping := by
  obtain ⟨-, -, ⟨-, -, -, -, -, -, -, hdead⟩, -⟩ := h; exact hdead

theorem District.Lawful.closed_iff (h : r.Lawful) :
    r.switch = .closed ↔ r.state = .live ∨ r.state = .swapCheck ∨ r.state = .soaking := h.1

/-- A district outside of SOAKING has no soak (R58). -/
theorem District.Lawful.soak_none (h : r.Lawful) (hr : r.state ≠ .soaking) : r.soak = none := by
  rw [← Option.not_isSome_iff_eq_none, h.soak_iff]; exact hr

/-- A record whose state, switch and hold set are those of a lawful one is lawful where its fields and timers fit that
state and the laws that do not speak of the state hold. -/
theorem District.Lawful.of_same_state {r' : District} (h : r.Lawful) (h' : r'.Stable)
    (hsame : r'.state = r.state ∧ r'.switch = r.switch ∧ (r'.holds = r.holds ∨ r.state = .off) ∧
      r'.soak.isSome = r.soak.isSome ∧ r'.preSwap = r.preSwap ∧ r'.checkCount.isSome = r.checkCount.isSome)
    (hdef : r'.deferral.isSome = true → r.state = .live) (hgrace : r'.grace = true → r.state = .live)
    (hcool : r'.coolDown.isSome = true → r.state = .tripped)
    (hsettle : r'.settle.isSome = true → r.state = .live ∨ r.state = .swapping ∨ r.state = .swapCheck)
    (hdead : r'.deadTime.isSome = true → r.state = .swapping) : r'.Lawful := by
  obtain ⟨e1, e2, e3, e4, e5, e6⟩ := hsame
  obtain ⟨hsw, hh, ⟨f1, f2, f3, -⟩, -⟩ := h
  obtain ⟨hw, hs, hst, ha⟩ := h'
  unfold District.Lawful District.FieldLaw
  rw [e1, e2, e4, e5, e6]
  exact ⟨hsw, fun k => e3.elim (fun e => hh (e ▸ k)) id, ⟨f1, f2, f3, hdef, hgrace, hcool, hsettle, hdead⟩, hw, hs, hst, ha⟩

/-- Statistics, figures, window and the like are written without a word on state, fields and timers. -/
theorem District.Lawful.of_same_fields {r' : District} (h : r.Lawful) (h' : r'.Stable)
    (hsame : r'.state = r.state ∧ r'.switch = r.switch ∧ (r'.holds = r.holds ∨ r.state = .off) ∧
      r'.soak.isSome = r.soak.isSome ∧ r'.preSwap = r.preSwap ∧ r'.checkCount.isSome = r.checkCount.isSome ∧
      r'.deferral = r.deferral ∧ r'.grace = r.grace ∧ r'.coolDown = r.coolDown ∧ r'.settle = r.settle ∧
      r'.deadTime = r.deadTime) : r'.Lawful := by
  obtain ⟨e1, e2, e3, e4, e5, e6, e7, e8, e9, e10, e11⟩ := hsame
  exact h.of_same_state h' ⟨e1, e2, e3, e4, e5, e6⟩ (e7 ▸ h.live_of_deferral) (e8 ▸ h.live_of_grace)
    (e9 ▸ h.tripped_of_coolDown) (e10 ▸ h.settles_of_settle) (e11 ▸ h.swapping_of_deadTime)

theorem District.Lawful.with_stats (h : r.Lawful) {st : Stats} (hst : st.InRange) :
    ({ r with stats := st } : District).Lawful :=
  h.of_same_fields ⟨h.stable.window, h.stable.suspect, hst, h.stable.acct⟩
    ⟨rfl, rfl, .inl rfl, rfl, rfl, rfl, rfl, rfl, rfl, rfl, rfl⟩

end FieldLaws

/-! ## The fit to the active settings -/

/-- A district that changes state fits its settings where the new state does (R6, R7, R78). -/
theorem District.enter_fits {r : District} {ds : DistrictSet} {st : DState} (h : r.FitsSettings ds)
    (hunused : st = .off ∨ ds.kind ≠ .unused) (hswap : st.isSwap = true → ds.kind = .reversing) :
    (r.enter st).FitsSettings ds := by
  obtain ⟨hr, hq, -, -, hp, hg, hd⟩ := h
  refine ⟨by simpa using hr, ?_, ?_, ?_, by simpa using hp, ?_, ?_⟩
  · cases st <;> simp_all
  · intro hu
    exact hunused.resolve_right (fun k => k hu)
  · simp only [District.enter_state]
    rintro (rfl | rfl) <;> exact hswap rfl
  · cases st <;> simp_all
  · cases st <;> simp_all

/-- A soak that starts fits the settings: E is 0 (R55, R62). -/
theorem District.startSoak_fits {r : District} {ds : DistrictSet} (h : r.FitsSettings ds) (hk : ds.kind ≠ .unused)
    (origin : SoakOrigin) (cost : Nat) : (r.startSoak origin cost).FitsSettings ds := by
  rw [District.startSoak_eq_enter]
  refine District.enter_fits ?_ (.inr hk) (by simp [DState.isSwap])
  obtain ⟨hr, -, hu, hs, hp, hg, hd⟩ := h
  exact ⟨hr, by simp, hu, hs, hp, hg, hd⟩

/-- A district that is not OFF is not UNUSED (R7). -/
theorem District.FitsSettings.kind_ne_unused {r : District} {ds : DistrictSet} (h : r.FitsSettings ds)
    (hr : r.state ≠ .off) : ds.kind ≠ .unused := fun hk => hr (h.2.2.1 hk)

/-! ## A record that evolves -/

/-- The change from `r` to `r'` keeps the laws of the record, and its fit to the settings `ds`. -/
structure District.Evolves (ds : DistrictSet) (r r' : District) : Prop where
  lawful : r.Lawful → r'.Lawful
  fits : r.Lawful → r.FitsSettings ds → r'.FitsSettings ds

theorem District.Evolves.refl (ds : DistrictSet) (r : District) : r.Evolves ds r := ⟨id, fun _ => id⟩

theorem District.Evolves.trans {ds : DistrictSet} {r r' r'' : District} (h : r.Evolves ds r') (k : r'.Evolves ds r'') :
    r.Evolves ds r'' := ⟨fun l => k.lawful (h.lawful l), fun l f => k.fits (h.lawful l) (h.fits l f)⟩

/-- A district that is not OFF, and so not UNUSED, comes to rest (R101, R108, R11). -/
theorem District.Evolves.enter_rest {ds : DistrictSet} {r : District} {st : DState}
    (hst : st = .off ∨ st = .dark ∨ st = .live ∨ st = .tripped ∨ st = .queued ∨ st = .latched)
    (hr : st = .off ∨ r.state ≠ .off) : r.Evolves ds (r.enter st) where
  lawful h := District.enter_rest_lawful h hst (hr.imp_right .inl)
  fits _ f := District.enter_fits f (hr.imp_right f.kind_ne_unused)
    (by rcases hst with rfl | rfl | rfl | rfl | rfl | rfl <;> simp [DState.isSwap])

theorem District.Evolves.startSoak {ds : DistrictSet} {r : District} (hr : r.state ≠ .off) (origin : SoakOrigin)
    (cost : Nat) : r.Evolves ds (r.startSoak origin cost) where
  lawful h := District.startSoak_lawful h hr origin cost
  fits _ f := District.startSoak_fits f (f.kind_ne_unused hr) origin cost

/-- A grant keeps the retry count within R (R21, R55). -/
theorem District.Evolves.granted {ds : DistrictSet} {r : District} (hr : r.state ≠ .off) (cost : Nat) :
    r.Evolves ds (r.granted cost ds.r) where
  lawful h := (District.startSoak_lawful h hr .individual cost :)
  fits _ f := by
    obtain ⟨-, hq, hu, hs, hp, hg, hd⟩ := District.startSoak_fits f (f.kind_ne_unused hr) .individual cost
    exact ⟨by simp, hq, hu, hs, hp, hg, hd⟩

/-- The end of a soak or swap that is given up writes the last soak figures alone (R67). -/
theorem District.Evolves.recordSoak (ds : DistrictSet) (r : District) (o : SoakOutcome) :
    r.Evolves ds (r.recordSoak o) := by
  rw [District.recordSoak_eq]
  exact ⟨id, fun _ => id⟩

@[simp] theorem District.recordSoak_state (r : District) (o : SoakOutcome) : (r.recordSoak o).state = r.state := by
  rw [District.recordSoak_eq]

@[simp] theorem District.recordSoak_holds (r : District) (o : SoakOutcome) : (r.recordSoak o).holds = r.holds := by
  rw [District.recordSoak_eq]

/-- Grace and deferral end, or one of them (R81, R85, R92, R151). -/
theorem District.Evolves.grace_over (ds : DistrictSet) (r : District) {grace : Bool} {deferral : Option Deferral}
    (hg : grace = true → r.grace = true) (hd : deferral.isSome = true → r.deferral.isSome = true) :
    r.Evolves ds { r with grace := grace, deferral := deferral } where
  lawful h := h.of_same_state ⟨h.stable.window, h.stable.suspect, h.stable.stats, h.stable.acct⟩
    ⟨rfl, rfl, .inl rfl, rfl, rfl, rfl⟩ (h.live_of_deferral ∘ hd) (h.live_of_grace ∘ hg) h.tripped_of_coolDown
    h.settles_of_settle h.swapping_of_deadTime
  fits _ f := by
    obtain ⟨hr, hq, hu, hs, hp, fg, fd⟩ := f
    exact ⟨hr, hq, hu, hs, hp, fg ∘ hg, fd ∘ hd⟩

/-! ## A record that stands by -/

/-- The change from `r` to `r'` keeps the laws of the record, its hold set, and whether it is OFF. -/
structure District.Stands (ds : DistrictSet) (r r' : District) : Prop extends r.Evolves ds r' where
  off : r'.state = .off ↔ r.state = .off
  holds : r'.holds = r.holds

theorem District.Stands.refl (ds : DistrictSet) (r : District) : r.Stands ds r := ⟨.refl ds r, .rfl, rfl⟩

theorem District.Stands.trans {ds : DistrictSet} {r r' r'' : District} (h : r.Stands ds r') (k : r'.Stands ds r'') :
    r.Stands ds r'' :=
  ⟨h.toEvolves.trans k.toEvolves, k.off.trans h.off, k.holds.trans h.holds⟩

theorem District.Stands.granted {ds : DistrictSet} {r : District} (hr : r.state ≠ .off) (cost : Nat) :
    r.Stands ds (r.granted cost ds.r) :=
  ⟨.granted hr cost, by simp [hr], by simp [District.granted, District.startSoak]⟩

theorem District.Stands.startSoak {ds : DistrictSet} {r : District} (hr : r.state ≠ .off) (origin : SoakOrigin)
    (cost : Nat) : r.Stands ds (r.startSoak origin cost) :=
  ⟨.startSoak hr origin cost, by simp [hr], by simp [District.startSoak]⟩

/-- A district that is not OFF enters another state than OFF that has no field of its own. -/
theorem District.Stands.enter {ds : DistrictSet} {r : District} {st : DState} (hr : r.state ≠ .off)
    (hst : st = .dark ∨ st = .live ∨ st = .tripped ∨ st = .queued ∨ st = .latched) : r.Stands ds (r.enter st) :=
  ⟨.enter_rest (.inr hst) (.inr hr), by rcases hst with rfl | rfl | rfl | rfl | rfl <;> simp [hr], by simp⟩

/-- LATCHED with its counter (R23). -/
theorem District.Stands.latched {ds : DistrictSet} {r : District} (hr : r.state ≠ .off) :
    r.Stands ds { r.enter .latched with stats := { r.stats with latches := r.stats.latches.rise } } where
  lawful h := by
    obtain ⟨h1, h2, h3, h4, h5, h6, h7⟩ := h.stable.stats
    exact (District.enter_rest_lawful h (by simp) (.inr (.inl hr))).with_stats
      ⟨h1, h2, h3, h4, Counter.rise_le h5, h6, h7⟩
  fits _ f := District.enter_fits (st := .latched) f (.inr (f.kind_ne_unused hr)) (by simp [DState.isSwap])
  off := by simp [hr]
  holds := by simp

theorem District.Stands.grace_over (ds : DistrictSet) (r : District) {grace : Bool} {deferral : Option Deferral}
    (hg : grace = true → r.grace = true) (hd : deferral.isSome = true → r.deferral.isSome = true) :
    r.Stands ds { r with grace := grace, deferral := deferral } := ⟨.grace_over ds r hg hd, .rfl, rfl⟩

end Sys2Proof.Machine
end

section
/-! # Districts that stand by: what the arbiter, the walker and the copies keep at every district -/

namespace Sys2Proof.Machine

/-! ## Keeping the laws at a district, and standing by -/

/-- From `s` to `t` the laws of district `e`'s record, and its fit to its active settings, are kept. -/
structure KeepsAt (e : DistrictId) (s t : State) : Prop where
  lawful : (s.district e).Lawful → (t.district e).Lawful
  fits : (s.district e).Lawful → (s.district e).FitsSettings (s.dset e) → (t.district e).FitsSettings (t.dset e)

theorem KeepsAt.refl (e : DistrictId) (s : State) : KeepsAt e s s := ⟨id, fun _ => id⟩

theorem KeepsAt.trans {e : DistrictId} {s t u : State} (h : KeepsAt e s t) (k : KeepsAt e t u) : KeepsAt e s u :=
  ⟨fun l => k.lawful (h.lawful l), fun l f => k.fits (h.lawful l) (h.fits l f)⟩

/-- From `s` to `t` district `e` stands by: its settings stay, and its record keeps its laws, its hold set and whether
it is OFF. -/
structure StandsAt (e : DistrictId) (s t : State) : Prop where
  record : (s.district e).Stands (s.dset e) (t.district e)
  dset : t.dset e = s.dset e

theorem StandsAt.keeps {e : DistrictId} {s t : State} (h : StandsAt e s t) : KeepsAt e s t :=
  ⟨h.record.lawful, fun l f => by rw [h.dset]; exact h.record.fits l f⟩

theorem StandsAt.off {e : DistrictId} {s t : State} (h : StandsAt e s t) :
    (t.district e).state = .off ↔ (s.district e).state = .off := h.record.off

theorem StandsAt.holds {e : DistrictId} {s t : State} (h : StandsAt e s t) :
    (t.district e).holds = (s.district e).holds := h.record.holds

theorem StandsAt.refl (e : DistrictId) (s : State) : StandsAt e s s := ⟨.refl _ _, rfl⟩

theorem StandsAt.trans {e : DistrictId} {s t u : State} (h : StandsAt e s t) (k : StandsAt e t u) : StandsAt e s u :=
  ⟨h.record.trans (h.dset ▸ k.record), k.dset.trans h.dset⟩

/-- A district whose record and settings are as they were stands by. -/
theorem StandsAt.of_eq {e : DistrictId} {s t : State} (h : t.district e = s.district e) (k : t.dset e = s.dset e) :
    StandsAt e s t := ⟨by rw [h]; exact .refl _ _, k⟩

theorem KeepsAt.of_eq {e : DistrictId} {s t : State} (h : t.district e = s.district e) (k : t.dset e = s.dset e) :
    KeepsAt e s t := (StandsAt.of_eq h k).keeps

theorem StandsAt.modFeed (e : DistrictId) (s : State) (f : FeedId) (g : Feed → Feed) : StandsAt e s (s.modFeed f g) :=
  .of_eq rfl rfl

theorem StandsAt.modWalk (e : DistrictId) (s : State) (f : FeedId) (g : Walk → Walk) : StandsAt e s (s.modWalk f g) :=
  .of_eq rfl rfl

theorem StandsAt.post (e : DistrictId) (s : State) (ev : Event) : StandsAt e s (s.post ev) := .of_eq rfl rfl

/-- Where the record of one district changes, every district stands by if that one does. -/
theorem StandsAt.modDistrict {e d : DistrictId} {s : State} {g : District → District}
    (h : e = d → (s.district d).Stands (s.dset d) (g (s.district d))) : StandsAt e s (s.modDistrict d g) := by
  by_cases he : e = d
  · subst he
    exact ⟨by rw [State.district_modDistrict_same]; exact h rfl, rfl⟩
  · exact .of_eq (State.district_modDistrict_of_ne he s g) rfl

theorem KeepsAt.modDistrict {e d : DistrictId} {s : State} {g : District → District}
    (h : e = d → (s.district d).Evolves (s.dset d) (g (s.district d))) : KeepsAt e s (s.modDistrict d g) := by
  by_cases he : e = d
  · subst he
    exact ⟨by rw [State.district_modDistrict_same]; exact (h rfl).lawful,
      by rw [State.district_modDistrict_same]; exact (h rfl).fits⟩
  · exact (StandsAt.of_eq (State.district_modDistrict_of_ne he s g) rfl).keeps

/-! ## The arbiter -/

theorem Grants.stands {f : FeedId} {s t : State} (h : Grants f s t) (e : DistrictId) : StandsAt e s t := by
  refine ⟨?_, h.records.dset e⟩
  rcases h.districts e with k | ⟨hq, -, k⟩ <;> rw [k]
  · exact .refl _ _
  · exact .granted (by simp [hq]) _

theorem StandsAt.runGrantRule (e : DistrictId) (s : State) (f : FeedId) : StandsAt e s (s.runGrantRule f) :=
  (s.runGrantRule_grants f).stands e

theorem StandsAt.enqueue {e d : DistrictId} {s : State} {f : FeedId} (h : e = d → (s.district d).state ≠ .off) :
    StandsAt e s (s.enqueue f d) :=
  (StandsAt.modDistrict fun he => .enter (h he) (by simp)).trans (.modFeed e _ f _)

theorem StandsAt.join {e d : DistrictId} {s : State} {f : FeedId} (h : e = d → (s.district d).state ≠ .off) :
    StandsAt e s (s.join f d) := (StandsAt.enqueue h).trans (.runGrantRule e _ f)

theorem StandsAt.returnToService {e d : DistrictId} {s : State} (h : e = d → (s.district d).state ≠ .off) :
    StandsAt e s (s.returnToService d) := by
  unfold State.returnToService
  split
  · exact .join h
  · exact .modDistrict fun he => .enter (h he) (by simp)

theorem StandsAt.latch {e d : DistrictId} {s : State} (cause : Cause) (h : e = d → (s.district d).state ≠ .off) :
    StandsAt e s (s.latch d cause) :=
  (StandsAt.modDistrict fun he => .latched (h he)).trans (.post e _ _)

/-! ## The walker (chapter 06) -/

theorem StandsAt.settleDark {e d : DistrictId} {s : State} (f : FeedId) (h : (s.district d).state = .dark) :
    StandsAt e s (s.settleDark f d) := by
  unfold State.settleDark
  split
  · have cause : (s.district d).Stands (s.dset d) { s.district d with lastCause := .feedFault } :=
      ⟨⟨id, fun _ => id⟩, .rfl, rfl⟩
    exact (StandsAt.modDistrict fun _ => cause).trans (.latch _ fun _ => by simp [h])
  · exact .enqueue fun _ => by simp [h]

theorem StandsAt.settleAll (e : DistrictId) (f : FeedId) (ds : List DistrictId) (s : State) (hn : ds.Nodup)
    (h : ∀ d ∈ ds, (s.district d).state = .dark) : StandsAt e s (ds.foldl (State.settleDark f) s) := by
  induction ds generalizing s with
  | nil => exact .refl e s
  | cons d ds ih =>
    rw [List.nodup_cons] at hn
    refine (StandsAt.settleDark f (h d (by simp))).trans (ih _ hn.2 fun x hx => ?_)
    rw [s.settleDark_other f (by rintro rfl; exact hn.1 hx)]
    exact h x (by simp [hx])

theorem StandsAt.copyWaitingChains (e : DistrictId) (s : State) : StandsAt e s s.copyWaitingChains := by
  unfold State.copyWaitingChains
  split
  · exact .of_eq rfl rfl
  · exact .refl e s

theorem StandsAt.haltWalk (e : DistrictId) (s : State) (f : FeedId) (o : Origin) (why : HaltReason) :
    StandsAt e s (s.haltWalk f o why) := .of_eq rfl rfl

theorem StandsAt.endWalk (e : DistrictId) (s : State) (f : FeedId) (o : Origin) (why : EndReason) :
    StandsAt e s (s.endWalk f o why) := by
  have stopped := StandsAt.modWalk e s f (fun w => w.stopped why.lastEnd)
  have settled := StandsAt.settleAll e f _ (s.modWalk f (fun w => w.stopped why.lastEnd))
    ((s.modWalk f (fun w => w.stopped why.lastEnd)).inState_nodup f .dark)
    (fun d hd => ((State.mem_inState _ _ _ _).1 hd).2)
  exact (stopped.trans settled).trans (.trans (.modFeed e _ f _) (.trans (.post e _ _)
    (.trans (.modFeed e _ f _) (.trans (.runGrantRule e _ f) (.copyWaitingChains e _)))))

theorem StandsAt.admitMember {e m : DistrictId} {s : State} (f : FeedId) (h : (s.district m).state = .dark) :
    StandsAt e s (s.admitMember f m) := by
  unfold State.admitMember
  exact (StandsAt.modFeed e s f _).trans (.modDistrict fun _ => .startSoak (by simp [h]) _ _)

theorem StandsAt.admitFrom (e : DistrictId) (f : FeedId) (ms : List DistrictId) (s : State) :
    StandsAt e s (admitFrom f ms s) := by
  induction ms generalizing s with
  | nil => exact .refl e s
  | cons m rest ih =>
    have skip : ∀ t : State, StandsAt e t (t.skipMember f) := fun t => .modWalk e t f _
    unfold Machine.admitFrom
    dsimp only
    split
    · split
      · exact ((StandsAt.modWalk e s f _).trans (skip _)).trans (.haltWalk e _ f _ _)
      · exact ((StandsAt.modWalk e s f _).trans (skip _)).trans (ih _)
    · split
      · exact (skip s).trans (ih _)
      · split
        · exact (StandsAt.admitMember f (by simp_all)).trans (ih _)
        · exact .modWalk e s f _

theorem StandsAt.pauseOrLink {e : DistrictId} {f : FeedId} {visit : Position → State → State}
    (hv : ∀ pos s, StandsAt e s (visit pos s)) (s : State) : StandsAt e s (s.pauseOrLink visit f) := by
  unfold State.pauseOrLink
  split
  · exact .modWalk e s f _
  · split
    · exact .endWalk e s f _ _
    · exact hv _ s

theorem StandsAt.complete {e : DistrictId} {f : FeedId} {visit : Position → State → State}
    (hv : ∀ pos s, StandsAt e s (visit pos s)) (s : State) : StandsAt e s (s.complete visit f) := by
  have posted : StandsAt e s (s.postEntryDone f) := .post e s _
  unfold State.complete
  split
  · split
    · exact posted.trans (.modWalk e _ f _)
    · exact posted.trans (.pauseOrLink hv _)
  · exact .refl e s

theorem StandsAt.visit (e : DistrictId) (n : Nat) (f : FeedId) (pos : Position) (s : State) :
    StandsAt e s (visit n f pos s) := by
  induction n generalizing pos s with
  | zero => exact .refl e s
  | succ n ih =>
    unfold Machine.visit
    have moved := StandsAt.modWalk e s f (fun w => { w with position := pos, stepCount := w.stepCount + 1 })
    dsimp only
    split
    · exact moved.trans ((StandsAt.modWalk e _ f _).trans (.endWalk e _ f _ _))
    · exact moved.trans (((StandsAt.modWalk e _ f _).trans (.admitFrom e f _ _)).trans (.complete (fun _ _ => ih _ _) _))

theorem StandsAt.startWalk (e : DistrictId) (s : State) (f : FeedId) (o : Origin) (reason : Nat) :
    StandsAt e s (s.startWalk f o reason) := by
  have go : ∀ t : State, StandsAt e t (match t.firstPosition f with
      | none => t.endWalk f .device .completed
      | some pos => t.visitEntry f pos) := fun t => by
    split
    · exact .endWalk e t f _ _
    · exact .visit e _ f _ t
  exact (StandsAt.modWalk e s f _).trans ((StandsAt.post e _ _).trans (go _))

theorem StandsAt.followLink (e : DistrictId) (s : State) (f : FeedId) : StandsAt e s (s.followLink f) := by
  unfold State.followLink
  split
  · exact .endWalk e s f _ _
  · exact .visit e _ f _ s

theorem StandsAt.resumeEntry (e : DistrictId) (s : State) (f : FeedId) : StandsAt e s (s.resumeEntry f) :=
  (StandsAt.admitFrom e f _ s).trans (.complete (fun pos s => .visit e _ f pos s) _)

theorem StandsAt.walkNotice (e : DistrictId) (s : State) (f : FeedId) (d : DistrictId) (o : NoticeOutcome) :
    StandsAt e s (s.walkNotice f d o) := by
  unfold State.walkNotice
  split
  · exact .refl e s
  · have halt : ∀ t : State, StandsAt e t (if o = .failed ∧ (t.fset f).haltOnError = true ∧ (t.feed f).state = .walking
        then t.haltWalk f .device (.memberFailed d) else t) := fun t => by
      split
      · exact .haltWalk e t f _ _
      · exact .refl e t
    have retry : ∀ t : State, StandsAt e t (if (t.feed f).state = .walking ∧ (t.walk f).waiting = true then
        t.runAdmission f else t) := fun t => by
      split
      · exact .admitFrom e f _ t
      · exact .refl e t
    exact (StandsAt.modWalk e s f _).trans
      ((halt _).trans ((retry _).trans (.complete (fun pos s => .visit e _ f pos s) _)))

/-! ## Notices and copies (chapters 05, 07) -/

theorem StandsAt.installFeed (e : DistrictId) (s : State) (f : FeedId) : StandsAt e s (s.installFeed f) := .of_eq rfl rfl

theorem StandsAt.copyFeed (e : DistrictId) (s : State) (f : FeedId) : StandsAt e s (s.copyFeed f) :=
  (StandsAt.installFeed e s f).trans (.runGrantRule e _ f)

theorem StandsAt.copyWaitingFeed (e : DistrictId) (s : State) (f : FeedId) : StandsAt e s (s.copyWaitingFeed f) := by
  unfold State.copyWaitingFeed
  split
  · exact (StandsAt.installFeed e s f).trans ((StandsAt.post e _ _).trans (.runGrantRule e _ f))
  · exact .refl e s

theorem StandsAt.soakEndNotice (e : DistrictId) (s : State) (f : FeedId) (d : DistrictId) (c : SoakContext)
    (o : NoticeOutcome) : StandsAt e s (s.soakEndNotice f d c o) := by
  have pass : ∀ t : State, StandsAt e t (if c.origin = .individual then t else t.walkNotice f d o) := fun t => by
    split
    · exact .refl e t
    · exact .walkNotice e t f d o
  exact (StandsAt.modFeed e s f _).trans ((pass _).trans ((StandsAt.runGrantRule e _ f).trans (.copyWaitingFeed e _ f)))

theorem StandsAt.correct (e : DistrictId) (s : State) (named : Half) (o : Origin) (d : DistrictId) :
    StandsAt e s (s.correct named o d) := by
  unfold State.correct
  dsimp only
  split <;> exact .of_eq rfl rfl

@[simp] theorem State.correct_district (s : State) (named : Half) (o : Origin) (d e : DistrictId) :
    (s.correct named o d).district e = s.district e := by
  simp only [State.district, (s.correct_frame named o d).1]

theorem StandsAt.clearRelations (e : DistrictId) (before : Image) (ds : List DistrictId) (s : State) :
    StandsAt e s (ds.foldl (State.clearChangedRelation before) s) := by
  induction ds generalizing s with
  | nil => exact .refl e s
  | cons d ds ih =>
    refine StandsAt.trans ?_ (ih _)
    unfold State.clearChangedRelation
    split
    · exact .refl e s
    · exact .modDistrict fun _ => .grace_over _ _ (by simp) (by simp)

theorem StandsAt.leaveFor {e d : DistrictId} (h : e ≠ d) (s : State) (f : FeedId) (st : DState) :
    StandsAt e s (s.leaveFor f d st) := by
  have entered : StandsAt e s (s.modDistrict d (fun r => r.enter st)) := .modDistrict fun he => absurd he h
  unfold State.leaveFor
  dsimp only
  split
  · exact entered.trans ((StandsAt.modFeed e _ f _).trans (.runGrantRule e _ f))
  · exact entered

theorem StandsAt.installDistrict {e d : DistrictId} (h : e ≠ d) (s : State) : StandsAt e s (s.installDistrict d) := by
  have set : StandsAt e s { s with activeImage := s.activeImage.withDistrict d (s.pendingImage.district d) } :=
    .of_eq rfl (by simp [State.dset, Image.district_withDistrict, h])
  unfold State.installDistrict
  dsimp only
  exact (set.trans (.clearRelations e s.activeImage allDistricts _)).trans (.modDistrict fun he => absurd he h)

/-! ## The copy of a district's settings (R150 to R152) -/

theorem mem_allDistricts (d : DistrictId) : d ∈ allDistricts := by revert d; decide

/-- Every relation that an image change touches is cleared, district by district (R79, R151). -/
theorem State.clearRelations_district (before : Image) (ds : List DistrictId) (hn : ds.Nodup) (s : State)
    (e : DistrictId) :
    (ds.foldl (State.clearChangedRelation before) s).district e =
      if e ∈ ds ∧ before.guardianOf e ≠ s.activeImage.guardianOf e then
        { s.district e with grace := false, deferral := none }
      else s.district e := by
  induction ds generalizing s with
  | nil => simp
  | cons d ds ih =>
    rw [List.nodup_cons] at hn
    have image : (s.clearChangedRelation before d).activeImage = s.activeImage := by
      unfold State.clearChangedRelation; split <;> rfl
    have record : (s.clearChangedRelation before d).district e =
        if e = d ∧ before.guardianOf e ≠ s.activeImage.guardianOf e then
          { s.district e with grace := false, deferral := none }
        else s.district e := by
      unfold State.clearChangedRelation
      by_cases hd : e = d
      · subst hd
        split <;> simp_all
      · split <;> simp [State.district_modDistrict, hd]
    rw [List.foldl_cons, ih hn.2, image, record]
    by_cases hd : e = d
    · subst hd
      simp [hn.1]
    · simp [hd]

theorem OnlyRecords.clearRelations (before : Image) (ds : List DistrictId) (s : State) :
    OnlyRecords s (ds.foldl (State.clearChangedRelation before) s) := by
  induction ds generalizing s with
  | nil => exact .refl s
  | cons d ds ih =>
    refine OnlyRecords.trans ?_ (ih _)
    unfold State.clearChangedRelation
    split
    · exact .refl s
    · exact .modDistrict s d _

theorem State.clearRelations_feed (before : Image) (ds : List DistrictId) (s : State) (f : FeedId) :
    (ds.foldl (State.clearChangedRelation before) s).feed f = s.feed f := by
  induction ds generalizing s with
  | nil => rfl
  | cons d ds ih =>
    rw [List.foldl_cons, ih]
    unfold State.clearChangedRelation
    split <;> rfl

/-- Two states with the same districts' records have the same district records. -/
theorem State.districts_eq {s t : State} (h : ∀ d, t.district d = s.district d) : t.districts = s.districts :=
  Vector.ext fun i hi => h ⟨i, hi⟩

theorem State.feeds_eq {s t : State} (h : ∀ f, t.feed f = s.feed f) : t.feeds = s.feeds :=
  Vector.ext fun i hi => h ⟨i, hi⟩

/-- States that agree in every district record, every feed record and all the rest are the same. -/
theorem OnlyRecords.eq_of_records {s t : State} (h : OnlyRecords s t) (hd : ∀ d, t.district d = s.district d)
    (hf : ∀ f, t.feed f = s.feed f) : t = s := by
  obtain ⟨h1, h2, h3, h4, h5, h6, h7, h8, h9, h10, h11⟩ := h
  have h12 := State.districts_eq hd
  have h13 := State.feeds_eq hf
  cases s
  cases t
  simp_all

@[simp] theorem State.setCopied_district (s : State) (d e : DistrictId) :
    (s.setCopied d).district e =
      { s.district e with
        retry := if e = d then min (s.district e).retry (s.pendingImage.district d).r else (s.district e).retry
        grace := (s.district e).grace && decide
          ((s.activeImage.withDistrict d (s.pendingImage.district d)).guardianOf e = s.activeImage.guardianOf e)
        deferral :=
          if (s.activeImage.withDistrict d (s.pendingImage.district d)).guardianOf e = s.activeImage.guardianOf e
          then (s.district e).deferral else none } := by
  simp [State.setCopied, State.district]

@[simp] theorem State.setCopied_activeImage (s : State) (d : DistrictId) :
    (s.setCopied d).activeImage = s.activeImage.withDistrict d (s.pendingImage.district d) := rfl

@[simp] theorem State.setCopied_feed (s : State) (d : DistrictId) (f : FeedId) : (s.setCopied d).feed f = s.feed f := rfl

/-- The active set of `d` after its copy is its pending one, and no other changes (R151). -/
theorem State.setCopied_dset (s : State) (d e : DistrictId) :
    (s.setCopied d).dset e = if e = d then s.pendingImage.district d else s.dset e :=
  Image.district_withDistrict _ _ _ _

/-- What a copy installs, said record by record (R21, R79, R151). -/
theorem State.installDistrict_eq_setCopied (s : State) (d : DistrictId) : s.installDistrict d = s.setCopied d := by
  have step : ∀ t : State, t = { s with activeImage := s.activeImage.withDistrict d (s.pendingImage.district d) } →
      (allDistricts.foldl (State.clearChangedRelation s.activeImage) t).modDistrict d (fun r => { r with
        retry := min r.retry ((allDistricts.foldl (State.clearChangedRelation s.activeImage) t).dset d).r }) =
      s.setCopied d := by
    intro t ht
    have records := OnlyRecords.clearRelations s.activeImage allDistricts t
    have set : (allDistricts.foldl (State.clearChangedRelation s.activeImage) t).dset d = s.pendingImage.district d := by
      rw [records.dset, ht]
      simp [State.dset, Image.district_withDistrict]
    refine OnlyRecords.eq_of_records ?_ (fun e => ?_) (fun f => ?_)
    · refine OnlyRecords.trans ?_ (records.trans (.modDistrict _ d _))
      subst ht
      exact ⟨rfl, rfl, rfl, rfl, rfl, rfl, rfl, rfl, rfl, rfl, rfl⟩
    · rw [State.district_modDistrict, State.clearRelations_district _ _ (by decide),
        State.clearRelations_district _ _ (by decide), set, State.setCopied_district]
      subst ht
      by_cases hd : e = d
      · subst hd
        by_cases hg : (s.activeImage.withDistrict e (s.pendingImage.district e)).guardianOf e =
            s.activeImage.guardianOf e
        · simp [State.district, hg]
        · have hg' : ¬s.activeImage.guardianOf e =
              (s.activeImage.withDistrict e (s.pendingImage.district e)).guardianOf e := fun k => hg k.symm
          simp [State.district, hg, hg', mem_allDistricts]
      · by_cases hg : (s.activeImage.withDistrict d (s.pendingImage.district d)).guardianOf e =
            s.activeImage.guardianOf e
        · simp [State.district, hg, hd]
        · have hg' : ¬s.activeImage.guardianOf e =
              (s.activeImage.withDistrict d (s.pendingImage.district d)).guardianOf e := fun k => hg k.symm
          simp [State.district, hg, hg', hd, mem_allDistricts]
    · rw [State.modDistrict_feed, State.clearRelations_feed]
      subst ht
      rfl
  exact step _ rfl

/-- The polarity after a change of feed or kind: NORMAL but for a REVERSING district (R152 step 1). -/
def State.straightened (s : State) (d : DistrictId) : State :=
  s.modDistrict d (fun r => if (s.dset d).kind = .reversing then r else { r with polarity := .normal })

/-- A copy that changes feed or kind leaves an OFF district at that (R152). -/
theorem State.changeFeedOrKind_of_off {s : State} {d : DistrictId} (old : FeedId) (h : (s.district d).state = .off) :
    s.changeFeedOrKind old d = s.straightened d := by
  have hs : ((s.straightened d).district d).state = .off := by
    simp only [State.straightened, State.district_modDistrict_same]; split <;> exact h
  unfold State.changeFeedOrKind
  dsimp only
  unfold State.straightened at hs ⊢
  rw [hs]

/-- A LATCHED district stays so, but goes OFF where it is UNUSED now (R152). -/
theorem State.changeFeedOrKind_of_latched {s : State} {d : DistrictId} (old : FeedId)
    (h : (s.district d).state = .latched) :
    s.changeFeedOrKind old d =
      if (s.dset d).kind = .unused then (s.straightened d).modDistrict d (fun r => r.enter .off)
      else s.straightened d := by
  have hs : ((s.straightened d).district d).state = .latched := by
    simp only [State.straightened, State.district_modDistrict_same]; split <;> exact h
  unfold State.changeFeedOrKind
  dsimp only
  unfold State.straightened at hs ⊢
  rw [hs]
  rfl

/-- A district in service starts afresh (R152): OFF where it is UNUSED now, else DARK and back to service. -/
theorem State.changeFeedOrKind_of_service {s : State} {d : DistrictId} (old : FeedId)
    (h : (s.district d).state = .dark ∨ (s.district d).state = .live ∨ (s.district d).state = .tripped ∨
      (s.district d).state = .queued) :
    s.changeFeedOrKind old d =
      if (s.dset d).kind = .unused then (s.straightened d).leaveFor old d .off
      else ((s.straightened d).leaveFor old d .dark).returnToService d := by
  have hs : ((s.straightened d).district d).state = (s.district d).state := by
    simp only [State.straightened, State.district_modDistrict_same]; split <;> rfl
  unfold State.changeFeedOrKind
  dsimp only
  unfold State.straightened at hs ⊢
  rw [hs]
  rcases h with h | h | h | h <;> rw [h] <;> rfl

/-- A district that does not defer its apply is OFF, LATCHED or in service. -/
theorem DState.of_not_defersApply {st : DState} (h : st.defersApply = false) :
    st = .off ∨ st = .latched ∨ (st = .dark ∨ st = .live ∨ st = .tripped ∨ st = .queued) := by
  cases st <;> simp_all [DState.defersApply]

theorem StandsAt.straightened {e d : DistrictId} (h : e ≠ d) (s : State) : StandsAt e s (s.straightened d) :=
  .modDistrict fun he => absurd he h

theorem StandsAt.changeFeedOrKind {e d : DistrictId} (h : e ≠ d) {s : State} (old : FeedId)
    (hd : (s.district d).state.defersApply = false) : StandsAt e s (s.changeFeedOrKind old d) := by
  have straight := StandsAt.straightened h s
  rcases DState.of_not_defersApply hd with k | k | k
  · rw [State.changeFeedOrKind_of_off old k]
    exact straight
  · rw [State.changeFeedOrKind_of_latched old k]
    split
    · exact straight.trans (.modDistrict fun he => absurd he h)
    · exact straight
  · rw [State.changeFeedOrKind_of_service old k]
    split
    · exact straight.trans (.leaveFor h _ _ _)
    · exact straight.trans ((StandsAt.leaveFor h _ _ _).trans (.returnToService fun he => absurd he h))

theorem StandsAt.copyDistrict {e d : DistrictId} (h : e ≠ d) {s : State}
    (hd : (s.district d).state.defersApply = false) : StandsAt e s (s.copyDistrict d) := by
  have installed := StandsAt.installDistrict h s
  unfold State.copyDistrict
  dsimp only
  split
  · split
    · exact installed.trans (.runGrantRule e _ _)
    · exact installed
  · exact installed.trans (.changeFeedOrKind h _ (by simpa [State.installDistrict_eq_setCopied] using hd))

theorem StandsAt.deferredCopy {e d : DistrictId} (h : e ≠ d) (s : State) : StandsAt e s (s.deferredCopy d) := by
  unfold State.deferredCopy
  split
  case isTrue hd =>
    simp only [Bool.and_eq_true, Bool.not_eq_true'] at hd
    refine ((StandsAt.correct e s 0 .device d).trans ((StandsAt.modDistrict fun he => absurd he h).trans
      (.post e _ _))).trans (.copyDistrict h ?_)
    simpa using hd.2
  case isFalse => exact .refl e s

/-! ## The laws at a district whose settings are copied -/

/-- What `leaveFor` leaves at the district that leaves (R11, R152). -/
theorem State.leaveFor_district (s : State) (f : FeedId) (d : DistrictId) {st : DState} (hst : st ≠ .queued) :
    (s.leaveFor f d st).district d = (s.district d).enter st := by
  unfold State.leaveFor
  dsimp only
  split
  · have bystander := (State.runGrantRule_grants ((s.modDistrict d (fun r => r.enter st)).leaveQueue f d) f).bystander
      (d := d) (by simpa [State.leaveQueue] using hst)
    rw [bystander]
    simp [State.leaveQueue]
  · simp

theorem State.leaveFor_dset (s : State) (f : FeedId) (d : DistrictId) (st : DState) (e : DistrictId) :
    (s.leaveFor f d st).dset e = s.dset e := by
  unfold State.leaveFor
  dsimp only
  split
  · rw [(State.runGrantRule_grants _ f).records.dset]; rfl
  · rfl

/-- A lawful record that holds no soak, swap, grace or deferral fits its settings where R, kind and polarity do. -/
theorem District.Lawful.fits_at_rest {r : District} {ds : DistrictSet} (h : r.Lawful)
    (hst : r.state = .off ∨ r.state = .dark ∨ r.state = .tripped ∨ r.state = .queued ∨ r.state = .latched)
    (hr : r.retry ≤ ds.r) (hu : ds.kind = .unused → r.state = .off) (hp : r.polarity = .swapped → ds.kind = .reversing) :
    r.FitsSettings ds := by
  obtain ⟨-, -, ⟨hsoak, -, -, hdef, hgrace, -⟩, -⟩ := h
  have notLive : r.state ≠ .live := by rcases hst with k | k | k | k | k <;> simp [k]
  have noSoak : r.soak = none := by
    rw [← Option.not_isSome_iff_eq_none, hsoak]
    rcases hst with k | k | k | k | k <;> simp [k]
  refine ⟨hr, by simp [noSoak], hu, fun k => ?_, hp, fun k => absurd (hgrace k) notLive, fun k => absurd (hdef k) notLive⟩
  rcases hst with k' | k' | k' | k' | k' <;> simp [k'] at k

theorem State.straightened_district (s : State) (d : DistrictId) :
    (s.straightened d).district d =
      { s.district d with polarity := if (s.dset d).kind = .reversing then (s.district d).polarity else .normal } := by
  simp only [State.straightened, State.district_modDistrict_same]
  split <;> rfl

/-- A copy that changes feed or kind keeps the laws at its district, the retry count being brought to R before (R152). -/
theorem State.changeFeedOrKind_keeps {s : State} {d : DistrictId} (old : FeedId)
    (hd : (s.district d).state.defersApply = false) (hl : (s.district d).Lawful)
    (hr : (s.district d).retry ≤ (s.dset d).r) :
    ((s.changeFeedOrKind old d).district d).Lawful ∧
      ((s.changeFeedOrKind old d).district d).FitsSettings ((s.changeFeedOrKind old d).dset d) := by
  obtain ⟨r, hrec⟩ : ∃ r, r = (s.straightened d).district d := ⟨_, rfl⟩
  have shape := hrec.trans (State.straightened_district s d)
  have lawful : r.Lawful := by rw [shape]; exact hl
  have straight : ∀ st : DState, (r.enter st).polarity = .swapped → (s.dset d).kind = .reversing := by
    intro st
    rw [District.enter_polarity, shape]
    by_cases k : (s.dset d).kind = .reversing <;> simp [k]
  have entered : ∀ st, (st = .off ∨ (st = .dark ∧ (s.district d).state ≠ .off ∧ (s.dset d).kind ≠ .unused)) →
      (r.enter st).Lawful ∧ (r.enter st).FitsSettings (s.dset d) := fun st hst => by
    have atRest : st = .off ∨ st = .dark := hst.imp_right And.left
    have rest : (r.enter st).Lawful := District.enter_rest_lawful lawful (atRest.imp_right .inl)
      (hst.imp_right fun k => .inl (by rw [shape]; exact k.2.1))
    exact ⟨rest, rest.fits_at_rest (atRest.imp_right .inl) (by rw [District.enter_retry, shape]; exact hr)
      (fun hu => hst.elim (fun k => k) (fun k => absurd hu k.2.2)) (straight st)⟩
  have still : (s.district d).state = .off ∨ ((s.district d).state = .latched ∧ (s.dset d).kind ≠ .unused) →
      r.Lawful ∧ r.FitsSettings (s.dset d) := fun hst => by
    refine ⟨lawful, lawful.fits_at_rest ?_ (by rw [shape]; exact hr) (fun hu => ?_) (by simpa using straight .off)⟩
    · rw [shape]; exact hst.imp_right fun k => .inr (.inr (.inr k.1))
    · rw [shape]; exact hst.elim id (fun k => absurd hu k.2)
  rcases DState.of_not_defersApply hd with k | k | k
  · rw [State.changeFeedOrKind_of_off old k, ← hrec]
    exact still (.inl k)
  · rw [State.changeFeedOrKind_of_latched old k]
    split
    · rw [State.district_modDistrict_same, ← hrec]
      exact entered .off (.inl rfl)
    · rw [← hrec]
      exact still (.inr ⟨k, ‹_›⟩)
  · have hoff : (s.district d).state ≠ .off := by rcases k with k | k | k | k <;> simp [k]
    rw [State.changeFeedOrKind_of_service old k]
    split
    · rw [State.leaveFor_district _ _ _ (by simp), State.leaveFor_dset, ← hrec]
      exact entered .off (.inl rfl)
    · have dark := State.leaveFor_district (s.straightened d) old d (st := .dark) (by simp)
      obtain ⟨l, f⟩ := entered .dark (.inr ⟨rfl, hoff, ‹_›⟩)
      have back := StandsAt.returnToService (e := d) (d := d) (s := (s.straightened d).leaveFor old d .dark)
        (fun _ => by simp [dark])
      have l' : (((s.straightened d).leaveFor old d .dark).district d).Lawful := by rw [dark, ← hrec]; exact l
      refine ⟨back.keeps.lawful l', back.keeps.fits l' ?_⟩
      rw [dark, State.leaveFor_dset, ← hrec]
      exact f

/-- A lawful record stays lawful when its district's set is installed (R21, R79, R151). -/
theorem District.Lawful.setCopied {s : State} {d : DistrictId} (h : (s.district d).Lawful) :
    ((s.setCopied d).district d).Lawful := by
  rw [State.setCopied_district]
  refine h.of_same_state ⟨h.stable.window, h.stable.suspect, h.stable.stats, h.stable.acct⟩
    ⟨rfl, rfl, .inl rfl, rfl, rfl, rfl⟩ (fun k => h.live_of_deferral ?_) (fun k => h.live_of_grace ?_)
    h.tripped_of_coolDown h.settles_of_settle h.swapping_of_deadTime
  · dsimp only at k
    split at k <;> simp_all
  · simp only [Bool.and_eq_true] at k
    exact k.1

theorem State.setCopied_state (s : State) (d e : DistrictId) :
    ((s.setCopied d).district e).state = (s.district e).state := by simp

/-- A district's copy keeps the laws at the district (R21, R78, R151, R152). -/
theorem KeepsAt.copyDistrict {s : State} {d : DistrictId} (hd : (s.district d).state.defersApply = false) :
    KeepsAt d s (s.copyDistrict d) := by
  have state : ((s.setCopied d).district d).state = (s.district d).state := s.setCopied_state d d
  have lawful : (s.district d).Lawful → ((s.setCopied d).district d).Lawful := District.Lawful.setCopied
  have retry : ((s.setCopied d).district d).retry ≤ ((s.setCopied d).dset d).r := by
    simp [State.setCopied_dset]
  have notSoaking : (s.district d).state ≠ .soaking := fun k => by simp [k, DState.defersApply] at hd
  unfold State.copyDistrict
  rw [State.installDistrict_eq_setCopied]
  dsimp only
  split
  case isTrue same =>
    have fits : (s.district d).Lawful → (s.district d).FitsSettings (s.dset d) →
        ((s.setCopied d).district d).FitsSettings ((s.setCopied d).dset d) := fun h f => by
      have soak := (lawful h).soak_none (by rw [state]; exact notSoaking)
      obtain ⟨-, -, hu, hs, hp, hg, hdf⟩ := f
      rw [← same.2] at hu hs hp hg hdf
      refine ⟨retry, by rw [soak]; rfl, by simpa using hu, by simpa using hs, by simpa using hp, fun k => hg ?_, fun k => hdf ?_⟩
      · simp only [State.setCopied_district, Bool.and_eq_true] at k
        exact k.1
      · simp only [State.setCopied_district] at k
        split at k
        · exact k
        · simp at k
    have installed : KeepsAt d s (s.setCopied d) := ⟨lawful, fits⟩
    split
    · exact installed.trans (StandsAt.runGrantRule d _ _).keeps
    · exact installed
  case isFalse =>
    have hd' : ((s.setCopied d).district d).state.defersApply = false := by rw [state]; exact hd
    exact ⟨fun h => (State.changeFeedOrKind_keeps _ hd' (lawful h) retry).1,
      fun h _ => (State.changeFeedOrKind_keeps _ hd' (lawful h) retry).2⟩

theorem KeepsAt.deferredCopy (e : DistrictId) (s : State) (d : DistrictId) : KeepsAt e s (s.deferredCopy d) := by
  by_cases he : e = d
  · subst he
    unfold State.deferredCopy
    split
    case isTrue hd =>
      simp only [Bool.and_eq_true, Bool.not_eq_true'] at hd
      have cleared : (s.district e).Evolves (s.dset e) { s.district e with applyDeferred := false } := ⟨id, fun _ => id⟩
      have corrected := StandsAt.correct e s 0 .device e
      refine (corrected.keeps.trans ((KeepsAt.modDistrict fun _ => ?_).trans (StandsAt.post e _ _).keeps)).trans
        (.copyDistrict ?_)
      · rw [State.correct_district, corrected.dset]; exact cleared
      · simpa using hd.2
    case isFalse => exact .refl e s
  · exact (StandsAt.deferredCopy he s).keeps

end Sys2Proof.Machine
end

section
/-! # The laws of the districts through recovery and samples (chapters 02 to 04) -/

namespace Sys2Proof.Machine

/-! ## Trips and latches (R22, R23, R39, R48) -/

theorem District.toTripped_eq_enter (r : District) (n : Nat) :
    r.toTripped n = ({ r with coolDown := some n }).enter .tripped := by
  by_cases h : r.switch = .closed <;>
    simp [District.toTripped, District.enter, District.clearWindow, DState.energised, h]

/-- The record that the LATCHED decision leaves, R being `limit` (R22, R23, R48). -/
def District.failed (r : District) (limit coolDown : Nat) : District :=
  if limit ≤ r.retry then { r.enter .latched with stats := { r.stats with latches := r.stats.latches.rise } }
  else r.toTripped coolDown

theorem State.tripOrLatch_record (s : State) (d e : DistrictId) (cause : Cause) :
    (s.tripOrLatch d cause).district e =
      if e = d then (s.district d).failed (s.dset d).r (s.dset d).coolDown else s.district e :=
  s.tripOrLatch_district d e cause

theorem Stats.InRange.latched {st : Stats} (h : st.InRange) : ({ st with latches := st.latches.rise } : Stats).InRange := by
  obtain ⟨h1, h2, h3, h4, h5, h6, h7⟩ := h
  exact ⟨h1, h2, h3, h4, Counter.rise_le h5, h6, h7⟩

/-- Whatever fields the record had, the LATCHED decision leaves a lawful one. -/
theorem District.failed_lawful {r : District} (h : r.Stable)
    (hh : ¬(r.holds.a = true ∨ r.holds.b = true ∨ r.holds.c = true)) (limit coolDown : Nat) :
    (r.failed limit coolDown).Lawful := by
  unfold District.failed
  split
  · exact (District.enter_lawful h (.inr hh) (by simp) (by simp [DState.isSwap]) (by simp)).with_stats
      h.stats.latched
  · rw [District.toTripped_eq_enter]
    exact District.enter_lawful ⟨h.window, h.suspect, h.stats, h.acct⟩ (.inr hh) (by simp) (by simp [DState.isSwap])
      (by simp)

@[simp] theorem District.failed_retry (r : District) (limit coolDown : Nat) :
    (r.failed limit coolDown).retry = r.retry := by
  unfold District.failed; split <;> simp [District.toTripped]

@[simp] theorem District.failed_polarity (r : District) (limit coolDown : Nat) :
    (r.failed limit coolDown).polarity = r.polarity := by
  unfold District.failed; split <;> simp [District.toTripped]

@[simp] theorem District.failed_holds (r : District) (limit coolDown : Nat) :
    (r.failed limit coolDown).holds = r.holds := by
  unfold District.failed; split <;> simp [District.toTripped]

theorem District.failed_state (r : District) (limit coolDown : Nat) :
    (r.failed limit coolDown).state = .latched ∨ (r.failed limit coolDown).state = .tripped := by
  unfold District.failed; split <;> simp [District.toTripped]

/-- A failed district that is lawful fits its settings where its retry count and polarity do. -/
theorem District.failed_fits {r : District} {ds : DistrictSet} {limit coolDown : Nat}
    (h : (r.failed limit coolDown).Lawful) (hr : r.retry ≤ ds.r) (hk : ds.kind ≠ .unused)
    (hp : r.polarity = .swapped → ds.kind = .reversing) : (r.failed limit coolDown).FitsSettings ds := by
  refine h.fits_at_rest ?_ (by simpa using hr) (fun k => absurd k hk) (by simpa using hp)
  rcases r.failed_state limit coolDown with k | k <;> simp [k]

theorem District.Stands.failed {ds : DistrictSet} {r : District} (hr : r.state ≠ .off) (limit coolDown : Nat) :
    r.Stands ds (r.failed limit coolDown) where
  lawful h := District.failed_lawful h.stable (h.no_holds hr) _ _
  fits h f := by
    obtain ⟨hret, -, -, -, hp, -⟩ := id f
    exact District.failed_fits (District.failed_lawful h.stable (h.no_holds hr) _ _) hret (f.kind_ne_unused hr) hp
  off := by rcases r.failed_state limit coolDown with k | k <;> simp [k, hr]
  holds := by simp

theorem State.tripOrLatch_dset (s : State) (d e : DistrictId) (cause : Cause) :
    (s.tripOrLatch d cause).dset e = s.dset e := by
  simp only [State.dset, (s.tripOrLatch_frame d cause).2.1]

theorem StandsAt.tripOrLatch {e d : DistrictId} {s : State} (cause : Cause)
    (h : e = d → (s.district d).state ≠ .off) : StandsAt e s (s.tripOrLatch d cause) := by
  refine ⟨?_, s.tripOrLatch_dset d e cause⟩
  rw [State.tripOrLatch_record]
  split
  case isTrue he => subst he; exact .failed (h rfl) _ _
  case isFalse => exact .refl _ _

/-- Counters rise within their range (R25). -/
theorem Stats.InRange.tripped {st : Stats} (h : st.InRange) : ({ st with trips := st.trips.rise } : Stats).InRange := by
  obtain ⟨h1, h2, h3, h4, h5, h6, h7⟩ := h
  exact ⟨Counter.rise_le h1, h2, h3, h4, h5, h6, h7⟩

theorem Stats.InRange.excused {st : Stats} (h : st.InRange) :
    ({ st with excuses := st.excuses.rise } : Stats).InRange := by
  obtain ⟨h1, h2, h3, h4, h5, h6, h7⟩ := h
  exact ⟨h1, Counter.rise_le h2, h3, h4, h5, h6, h7⟩

theorem Stats.InRange.recovered {st : Stats} (h : st.InRange) :
    ({ st with recoveries := st.recoveries.rise } : Stats).InRange := by
  obtain ⟨h1, h2, h3, h4, h5, h6, h7⟩ := h
  exact ⟨h1, h2, Counter.rise_le h3, h4, h5, h6, h7⟩

theorem Stats.InRange.soakFailed {st : Stats} (h : st.InRange) :
    ({ st with soakFails := st.soakFails.rise } : Stats).InRange := by
  obtain ⟨h1, h2, h3, h4, h5, h6, h7⟩ := h
  exact ⟨h1, h2, h3, Counter.rise_le h4, h5, h6, h7⟩

theorem Stats.InRange.swapped {st : Stats} (h : st.InRange) : ({ st with swaps := st.swaps.rise } : Stats).InRange := by
  obtain ⟨h1, h2, h3, h4, h5, h6, h7⟩ := h
  exact ⟨h1, h2, h3, h4, h5, Counter.rise_le h6, h7⟩

theorem Stats.InRange.swapFailed {st : Stats} (h : st.InRange) :
    ({ st with swapFails := st.swapFails.rise, trips := st.trips.rise } : Stats).InRange := by
  obtain ⟨h1, h2, h3, h4, h5, h6, h7⟩ := h
  exact ⟨Counter.rise_le h1, h2, h3, h4, h5, h6, Counter.rise_le h7⟩

/-- Writing statistics, last cause, mode and last soak figures keeps a record as it stands. -/
theorem District.Stands.reported {ds : DistrictSet} {r : District} {cause : Cause} {mode : Mode}
    {last : Option LastSoak} {st : Stats} (hst : r.stats.InRange → st.InRange) :
    r.Stands ds { r with lastCause := cause, mode := mode, lastSoak := last, stats := st } where
  lawful h := (h.with_stats (hst h.stable.stats) :)
  fits _ f := f
  off := .rfl
  holds := rfl

theorem StandsAt.trip {e d : DistrictId} {s : State} (why : Condition) (figure : Nat)
    (h : e = d → (s.district d).state ≠ .off) : StandsAt e s (s.trip d why figure) := by
  unfold State.trip
  refine (StandsAt.modDistrict fun _ => .reported Stats.InRange.tripped).trans
    ((StandsAt.post e _ _).trans (.tripOrLatch _ fun he => ?_))
  simpa [State.postDistrict] using h he

theorem StandsAt.excuse {e d : DistrictId} {s : State} (figure : Nat)
    (h : e = d → (s.district d).state = .live) : StandsAt e s (s.excuse d figure) := by
  unfold State.excuse
  refine (StandsAt.modDistrict fun he => ⟨⟨fun l => ?_, fun _ f => f⟩, .rfl, rfl⟩).trans (.post e _ _)
  exact l.of_same_state ⟨l.stable.window, l.stable.suspect, l.stable.stats.excused, l.stable.acct⟩
    ⟨rfl, rfl, .inl rfl, rfl, rfl, rfl⟩ l.live_of_deferral l.live_of_grace l.tripped_of_coolDown
    (fun _ => .inl (h he)) l.swapping_of_deadTime

/-! ## Soak ends (R66, R74) -/

theorem KeepsAt.soakFail {e d : DistrictId} {s : State} (c : SoakContext) (why : SoakFailure)
    (h : e = d → (s.district d).state ≠ .off) : KeepsAt e s (s.soakFail d c why) := by
  unfold State.soakFail
  refine KeepsAt.trans (StandsAt.keeps ?_) (.deferredCopy e _ d)
  refine (StandsAt.modDistrict fun _ => .reported Stats.InRange.soakFailed).trans
    ((StandsAt.post e _ _).trans ((StandsAt.tripOrLatch _ fun he => ?_).trans (.soakEndNotice e _ _ d c _)))
  simpa [State.postDistrict] using h he

/-- A soak that passes takes its district to LIVE (R74). -/
theorem District.Stands.soakPassed {ds : DistrictSet} {r : District} (hr : r.state ≠ .off) (ms : Nat) (last : LastSoak) :
    r.Stands ds { r.enter .live with
      mode := .strict, settle := some ms, suspect := 0
      stats := { r.stats with recoveries := r.stats.recoveries.rise }, lastSoak := some last } where
  lawful h := by
    have live := District.enter_rest_lawful (st := .live) h (by simp) (.inr (.inl hr))
    exact live.of_same_state ⟨live.stable.window, Nat.zero_le _, h.stable.stats.recovered, live.stable.acct⟩
      ⟨rfl, rfl, .inl rfl, rfl, rfl, rfl⟩ live.live_of_deferral live.live_of_grace live.tripped_of_coolDown
      (fun _ => .inl rfl) live.swapping_of_deadTime
  fits _ f := District.enter_fits (st := .live) f (.inr (f.kind_ne_unused hr)) (by simp [DState.isSwap])
  off := by simp [hr]
  holds := by simp

theorem KeepsAt.soakPass {e d : DistrictId} {s : State} (c : SoakContext)
    (h : e = d → (s.district d).state ≠ .off) : KeepsAt e s (s.soakPass d c) := by
  unfold State.soakPass
  refine KeepsAt.trans (StandsAt.keeps ?_) (.deferredCopy e _ d)
  exact (StandsAt.modDistrict fun he => .soakPassed (h he) _ _).trans
    ((StandsAt.post e _ _).trans (.soakEndNotice e _ _ d c _))

/-! ## Swaps (R81, R83, R85, R86) -/

/-- The active partner is a PLAIN district beside the one that swaps (R79). -/
theorem Image.partnerOf_plain {i : Image} {v p : DistrictId} (h : i.partnerOf v = some p) :
    p ≠ v ∧ (i.district p).kind = .plain := by
  unfold Image.partnerOf at h
  split at h
  · simp at h
  · split at h
    case isTrue hc =>
      obtain ⟨-, hne, hk, -⟩ := hc
      simp only [Option.some.injEq] at h
      exact h ▸ ⟨hne, hk⟩
    case isFalse => simp at h

theorem StandsAt.endGrace (e : DistrictId) (s : State) (v : DistrictId) : StandsAt e s (s.endGrace v) := by
  unfold State.endGrace
  split
  · exact .refl e s
  · exact .modDistrict fun _ => .grace_over _ _ (by simp) id

/-- The end of the partner's grace leaves the swapping district itself as it is. -/
theorem State.endGrace_district (s : State) (v : DistrictId) : (s.endGrace v).district v = s.district v := by
  unfold State.endGrace
  split
  · rfl
  case _ hp => exact State.district_modDistrict_of_ne (Image.partnerOf_plain hp).1.symm _ _

/-- A swap begins at a LIVE REVERSING district (R81). -/
theorem District.Evolves.swapBegun {ds : DistrictSet} {r : District} (hr : r.state ≠ .off) (hk : ds.kind = .reversing)
    (pol : Polarity) (ms : Nat) :
    r.Evolves ds (({ r with preSwap := some r.polarity, polarity := pol, deadTime := some ms } : District).enter .swapping) where
  lawful h := District.enter_lawful ⟨h.stable.window, h.stable.suspect, h.stable.stats, h.stable.acct⟩
    (.inr (h.no_holds hr)) (by simp) (fun _ => rfl) (by simp)
  fits _ f := by
    obtain ⟨hret, hq, hu, hs, -, hg, hd⟩ := f
    exact District.enter_fits ⟨hret, hq, hu, hs, fun _ => hk, hg, hd⟩ (.inr (by simp [hk])) (fun _ => hk)

theorem KeepsAt.swapTrigger {e v : DistrictId} {s : State} (h : e = v → (s.district v).state ≠ .off)
    (hk : (s.dset v).kind = .reversing) : KeepsAt e s (s.swapTrigger v) := by
  unfold State.swapTrigger
  have begun := KeepsAt.modDistrict (e := e) (d := v) (s := s) (g := fun r =>
    { r with preSwap := some r.polarity, polarity := r.polarity.toggled
             deadTime := some (s.dset v).deadTime }.enter .swapping) fun he => .swapBegun (h he) hk _ _
  dsimp only
  split
  · exact begun
  case _ p hp =>
    split
    case isTrue live =>
      refine begun.trans (.modDistrict fun _ => ⟨fun l => ?_, fun _ f => ?_⟩)
      · exact l.of_same_state ⟨l.stable.window, l.stable.suspect, l.stable.stats, l.stable.acct⟩
          ⟨rfl, rfl, .inl rfl, rfl, rfl, rfl⟩ (by simp) (fun _ => live) l.tripped_of_coolDown l.settles_of_settle
          l.swapping_of_deadTime
      · obtain ⟨hr, hq, hu, hs, hpol, -, -⟩ := f
        exact ⟨hr, hq, hu, hs, hpol, fun _ => (Image.partnerOf_plain hp).2, by simp⟩
    case isFalse => exact begun

theorem KeepsAt.swapSuccess {e v : DistrictId} {s : State} (h : e = v → (s.district v).state ≠ .off) :
    KeepsAt e s (s.swapSuccess v) := by
  unfold State.swapSuccess
  refine KeepsAt.trans (StandsAt.keeps ?_) (.deferredCopy e _ v)
  refine (StandsAt.modDistrict fun he => ?_).trans ((StandsAt.post e _ _).trans (.endGrace e _ v))
  have live := District.Stands.enter (ds := s.dset v) (st := .live) (h he) (by simp)
  exact ⟨⟨fun l => (live.lawful l).with_stats l.stable.stats.swapped, live.fits⟩, live.off, live.holds⟩

/-- The record of a district whose swap has failed, before the LATCHED decision (R86). -/
def District.swapLost (r : District) : District :=
  { r with
    lastCause := .swapFailed, polarity := r.preSwap.getD r.polarity, preSwap := none, checkCount := none
    stats := { r.stats with swapFails := r.stats.swapFails.rise, trips := r.stats.trips.rise } }

/-- What a failed swap leaves at its district, before a waiting copy is made (R86). -/
theorem State.swapFail_record (s : State) (v : DistrictId) (test figure : Nat) :
    ((((s.modDistrict v District.swapLost).postDistrict .swapFailed v (Cause.swapFailed.code + 16 * test)
      figure).endGrace v).tripOrLatch v .swapFailed).district v =
      (s.district v).swapLost.failed (s.dset v).r (s.dset v).coolDown := by
  rw [State.tripOrLatch_record, if_pos rfl, State.endGrace_district, (StandsAt.endGrace v _ v).dset]
  simp

theorem District.swapLost_lawful {r : District} (h : r.Lawful) (hr : r.state ≠ .off) (limit coolDown : Nat) :
    (r.swapLost.failed limit coolDown).Lawful :=
  District.failed_lawful (r := r.swapLost) ⟨h.stable.window, h.stable.suspect, h.stable.stats.swapFailed, h.stable.acct⟩
    (h.no_holds hr) _ _

theorem KeepsAt.swapFail {e v : DistrictId} {s : State} (test figure : Nat)
    (h : (s.district v).state = .swapCheck) : KeepsAt e s (s.swapFail v test figure) := by
  refine KeepsAt.trans (t := (((s.modDistrict v District.swapLost).postDistrict .swapFailed v
    (Cause.swapFailed.code + 16 * test) figure).endGrace v).tripOrLatch v .swapFailed) ?_ (.deferredCopy e _ v)
  by_cases he : e = v
  · subst he
    have hoff : (s.district e).state ≠ .off := by simp [h]
    refine ⟨fun l => ?_, fun l f => ?_⟩
    · rw [State.swapFail_record]
      exact District.swapLost_lawful l hoff _ _
    · have reversing : (s.dset e).kind = .reversing := by
        obtain ⟨-, -, -, hs, -⟩ := f
        exact hs (.inr h)
      obtain ⟨hret, -⟩ := id f
      rw [State.swapFail_record, State.tripOrLatch_dset, (StandsAt.endGrace e _ e).dset]
      exact District.failed_fits (District.swapLost_lawful l hoff _ _) hret (f.kind_ne_unused hoff) (fun _ => reversing)
  · exact ((StandsAt.modDistrict fun k => absurd k he).trans ((StandsAt.post e _ _).trans
      ((StandsAt.endGrace e _ v).trans (.tripOrLatch _ fun k => absurd k he)))).keeps

/-! ## Samples (R29 to R34) -/

/-- A sample keeps the running figures in range (R40, R41). -/
theorem Accounting.InRange.add {a : Accounting} (h : a.InRange) {x : Nat} (hx : x ≤ 1023) : (a.add x).InRange := by
  obtain ⟨h1, h2, h3⟩ := h
  unfold Accounting.add
  split
  · exact ⟨h1, h2, h3⟩
  · split
    · exact ⟨h1, h2, h3⟩
    · simp only [Config.chargeMax, Config.countMax] at *
      exact ⟨by simp only; omega, by simp only; omega, by simp only; omega⟩

/-- A sample keeps the window law where the switch is CLOSED (R30). -/
theorem District.WindowLaw.pushSample {r : District} (h : r.WindowLaw) (hc : r.switch = .closed) {x : Nat}
    (hx : x ≤ 1023) : (r.pushSample x).WindowLaw := by
  obtain ⟨hlen, hle, hsum, hfill, -⟩ := h
  obtain ⟨y, ys, hw⟩ : ∃ y ys, r.window = y :: ys := by
    cases hr : r.window with
    | nil => simp [hr] at hlen
    | cons y ys => exact ⟨y, ys, rfl⟩
  rw [hw] at hlen hle hsum
  refine ⟨?_, ?_, ?_, ?_, ?_⟩ <;> simp only [District.pushSample, hw, List.tail_cons, List.headD_cons]
  · simpa using hlen
  · intro z hz
    rcases List.mem_append.1 hz with k | k
    · exact hle z (by simp [k])
    · simp only [List.mem_singleton] at k
      exact k ▸ hx
  · simp [hsum]
  · exact Nat.min_le_left _ _
  · simp [hc]

/-- The window, figures and occupancy steps of a sample keep a CLOSED record as it stands. -/
theorem District.Stands.sampleTaken {ds : DistrictSet} {r : District} (hc : r.switch = .closed) {x : Nat}
    (hx : x ≤ 1023) : r.Stands ds { r.pushSample x with acct := r.acct.add x } where
  lawful h := h.of_same_fields
    ⟨District.WindowLaw.pushSample h.stable.window hc hx, h.stable.suspect, h.stable.stats, h.stable.acct.add hx⟩
    ⟨rfl, rfl, .inl rfl, rfl, rfl, rfl, rfl, rfl, rfl, rfl, rfl⟩
  fits _ f := f
  off := .rfl
  holds := rfl

theorem StandsAt.judgeOccupancy {e d : DistrictId} {s : State} (hc : (s.district d).switch = .closed) :
    StandsAt e s (s.judgeOccupancy d) := by
  have judged : ∀ (o : Occupancy) (seen : Bool),
      (s.district d).Stands (s.dset d) { s.district d with occupancy := o, seen := seen } := fun o seen =>
    ⟨⟨fun h => h.of_same_fields ⟨by
        obtain ⟨h1, h2, h3, h4, -⟩ := h.stable.window
        exact ⟨h1, h2, h3, h4, by simp [hc]⟩, h.stable.suspect, h.stable.stats, h.stable.acct⟩
      ⟨rfl, rfl, .inl rfl, rfl, rfl, rfl, rfl, rfl, rfl, rfl, rfl⟩, fun _ f => f⟩, .rfl, rfl⟩
  unfold State.judgeOccupancy
  dsimp only
  split
  · split
    · exact (StandsAt.modDistrict fun _ => judged _ _).trans (.post e _ _)
    · exact .modDistrict fun _ => judged _ _
  · exact .refl e s

/-! ## The evaluation (R34 to R39, R80, R84, R91, R92) -/

theorem KeepsAt.evaluateLive {e d : DistrictId} {s : State} (x : Nat) (h : (s.district d).state = .live) :
    KeepsAt e s (s.evaluateLive d x) := by
  have hoff : (s.district d).state ≠ .off := by simp [h]
  unfold State.evaluateLive
  dsimp only
  split
  · split
    · exact (StandsAt.trip _ _ fun _ => hoff).keeps
    · split
      · refine ((StandsAt.excuse _ fun _ => h).trans (.trip _ _ fun _ => ?_)).keeps
        rw [Ne, (StandsAt.excuse (e := d) x fun _ => h).off]
        exact hoff
      · exact (StandsAt.excuse _ fun _ => h).keeps
  · split
    · exact (StandsAt.trip _ _ fun _ => hoff).keeps
    · exact .refl e s

theorem KeepsAt.defer {e d : DistrictId} {s : State} (x : Nat) (h : (s.district d).state = .live)
    (hk : (s.dset d).kind = .plain) : KeepsAt e s (s.defer d x) := by
  refine .modDistrict fun _ => ⟨fun l => ?_, fun _ f => ?_⟩
  · exact l.of_same_state ⟨l.stable.window, l.stable.suspect, l.stable.stats, l.stable.acct⟩
      ⟨rfl, rfl, .inl rfl, rfl, rfl, rfl⟩ (fun _ => h) l.live_of_grace l.tripped_of_coolDown l.settles_of_settle
      l.swapping_of_deadTime
  · obtain ⟨hr, hq, hu, hs, hp, hg, -⟩ := f
    exact ⟨hr, hq, hu, hs, hp, hg, fun _ => hk⟩

theorem KeepsAt.evaluatePlain {e d : DistrictId} {s : State} (x : Nat) (h : (s.district d).state = .live)
    (hk : (s.dset d).kind = .plain) : KeepsAt e s (s.evaluatePlain d x) := by
  unfold State.evaluatePlain
  split
  · exact .refl e s
  · split
    · exact .defer x h hk
    · exact .evaluateLive x h

theorem StandsAt.resolveDeferral {e d : DistrictId} {s : State} (df : Deferral) (h : (s.district d).state = .live) :
    StandsAt e s (s.resolveDeferral d df) := by
  unfold State.resolveDeferral
  have resolved : StandsAt e s (s.modDistrict d (fun r => { r with deferral := none })) :=
    .modDistrict fun _ => .grace_over _ _ id (by simp)
  dsimp only
  split
  · exact resolved.trans (.excuse _ fun _ => by simpa using h)
  · exact resolved.trans (.trip _ _ fun _ => by simp [h])

theorem KeepsAt.evaluatePartner {e d : DistrictId} {s : State} (x : Nat) (h : (s.district d).state = .live)
    (hk : (s.dset d).kind = .plain) : KeepsAt e s (s.evaluatePartner d x) := by
  unfold State.evaluatePartner
  split
  · exact .refl e s
  · split
    · exact .evaluatePlain x h hk
    case _ df _ =>
      have resolved := StandsAt.resolveDeferral (e := e) df h
      have set := (StandsAt.resolveDeferral (e := d) df h).dset
      dsimp only
      split
      case isTrue live => exact resolved.keeps.trans (.evaluatePlain x live (by rw [set]; exact hk))
      case isFalse => exact resolved.keeps

theorem KeepsAt.evaluateReversing {e d : DistrictId} {s : State} (x : Nat) (h : (s.district d).state = .live)
    (hk : (s.dset d).kind = .reversing) : KeepsAt e s (s.evaluateReversing d x) := by
  have hoff : (s.district d).state ≠ .off := by simp [h]
  unfold State.evaluateReversing
  split
  · exact .swapTrigger (fun _ => hoff) hk
  · split
    · split
      · exact .swapTrigger (fun _ => hoff) hk
      · exact (StandsAt.trip _ _ fun _ => hoff).keeps
    · exact .refl e s

theorem KeepsAt.evaluateCheck {e d : DistrictId} {s : State} (x : Nat) (h : (s.district d).state = .swapCheck) :
    KeepsAt e s (s.evaluateCheck d x) := by
  unfold State.evaluateCheck
  split
  · exact .swapFail _ _ h
  · split
    · exact .swapFail _ _ h
    · have counted : ∀ n : Nat, (s.district d).Stands (s.dset d) { s.district d with checkCount := some n } := fun n =>
        ⟨⟨fun l => l.of_same_state ⟨l.stable.window, l.stable.suspect, l.stable.stats, l.stable.acct⟩
          ⟨rfl, rfl, .inl rfl, rfl, rfl, (l.checkCount_iff.2 h).symm⟩ l.live_of_deferral l.live_of_grace
          l.tripped_of_coolDown l.settles_of_settle l.swapping_of_deadTime, fun _ f => f⟩, .rfl, rfl⟩
      dsimp only
      split
      · exact (StandsAt.modDistrict fun _ => counted _).keeps.trans (.swapSuccess fun _ => by simp [h])
      · exact (StandsAt.modDistrict fun _ => counted _).keeps

theorem KeepsAt.evaluateSoak {e d : DistrictId} {s : State} (x : Nat) (h : (s.district d).state = .soaking) :
    KeepsAt e s (s.evaluateSoak d x) := by
  have hoff : (s.district d).state ≠ .off := by simp [h]
  unfold State.evaluateSoak
  split
  · exact .refl e s
  · dsimp only
    split
    · exact .soakFail _ _ fun _ => hoff
    · split
      · exact .soakFail _ _ fun _ => hoff
      case isFalse hq =>
        split
        · split
          · exact .soakPass _ fun _ => hoff
          · exact .soakFail _ _ fun _ => hoff
        · refine .modDistrict fun _ => ⟨fun l => ?_, fun _ f => ?_⟩
          · exact l.of_same_state ⟨l.stable.window, l.stable.suspect, l.stable.stats, l.stable.acct⟩
              ⟨rfl, rfl, .inl rfl, (l.soak_iff.2 h).symm, rfl, rfl⟩ l.live_of_deferral l.live_of_grace
              l.tripped_of_coolDown l.settles_of_settle l.swapping_of_deadTime
          · obtain ⟨hr, -, hu, hs, hp, hg, hd⟩ := f
            exact ⟨hr, by simpa only [Option.all_some, decide_eq_true_eq] using not_lt.1 hq, hu, hs, hp, hg, hd⟩

theorem KeepsAt.evaluate {e d : DistrictId} {s : State} (x : Nat) (hk : (s.dset d).kind ≠ .unused) :
    KeepsAt e s (s.evaluate d x) := by
  unfold State.evaluate
  split
  · exact .evaluateSoak x ‹_›
  · exact .evaluateCheck x ‹_›
  · split
    · exact .evaluateReversing x ‹_› ‹_›
    case isFalse hr =>
      have plain : (s.dset d).kind = .plain := by
        cases hs : (s.dset d).kind <;> simp_all
      exact .evaluatePartner x ‹_› plain
  all_goals exact .refl e s

theorem KeepsAt.takeSample {e d : DistrictId} {s : State} {x : Nat} (hx : x ≤ 1023) :
    KeepsAt e s (s.takeSample d x) := by
  unfold State.takeSample
  split
  · exact .refl e s
  case isFalse h =>
    rw [not_or] at h
    have closed : (s.district d).switch = .closed := by
      cases hs : (s.district d).switch
      · exact absurd hs h.2
      · rfl
    have taken : ∀ a, StandsAt a s
        (s.modDistrict d (fun r => { r.pushSample x with acct := r.acct.add x })) := fun a =>
      .modDistrict fun _ => .sampleTaken closed hx
    have judged : ∀ a, StandsAt a
        (s.modDistrict d (fun r => { r.pushSample x with acct := r.acct.add x }))
        ((s.modDistrict d (fun r => { r.pushSample x with acct := r.acct.add x })).judgeOccupancy d) := fun a =>
      .judgeOccupancy (by simpa [District.pushSample] using closed)
    refine ((taken e).trans (judged e)).keeps.trans (.evaluate x ?_)
    rw [((taken d).trans (judged d)).dset]
    exact h.1

end Sys2Proof.Machine
end

section
/-! # Every step keeps the laws of the districts -/

namespace Sys2Proof.Machine

/-! ## Entry to OFF and darkening (R11, R99, R101) -/

theorem StandsAt.abandonSwap (e : DistrictId) (s : State) (d : DistrictId) : StandsAt e s (s.abandonSwap d) := by
  unfold State.abandonSwap
  split
  · exact .endGrace e s d
  · exact .refl e s

theorem State.abandonSwap_district (s : State) (d : DistrictId) : (s.abandonSwap d).district d = s.district d := by
  unfold State.abandonSwap
  split
  · exact s.endGrace_district d
  · rfl

/-- The soak that an entry to OFF aborts, if any (R11 step 4). -/
def State.soakOf (s : State) (d : DistrictId) : Option SoakContext :=
  if (s.district d).state = .soaking then (s.district d).soak else none

/-- The entry to OFF before the notice of an aborted soak (R11). -/
def State.leftForOff (s : State) (d : DistrictId) : State :=
  ((s.abandonSwap d).modDistrict d (fun r => r.recordSoak .aborted)).leaveFor (s.feedOfDistrict d) d .off

/-- The entry to OFF: the record goes to OFF, and the notice of an aborted soak follows (R11). -/
theorem State.toOff_eq (s : State) (d : DistrictId) :
    s.toOff d = match s.soakOf d with
      | some c => (s.leftForOff d).soakEndNotice (s.feedOfDistrict d) d c .aborted
      | none => s.leftForOff d := rfl

theorem State.leftForOff_district (s : State) (d : DistrictId) :
    (s.leftForOff d).district d = ((s.district d).recordSoak .aborted).enter .off := by
  rw [State.leftForOff, State.leaveFor_district _ _ _ (by simp), State.district_modDistrict_same,
    State.abandonSwap_district]

theorem State.leftForOff_dset (s : State) (d e : DistrictId) : (s.leftForOff d).dset e = s.dset e := by
  rw [State.leftForOff, State.leaveFor_dset]
  exact (StandsAt.abandonSwap e s d).dset

theorem StandsAt.leftForOff {e d : DistrictId} (h : e ≠ d) (s : State) : StandsAt e s (s.leftForOff d) :=
  (StandsAt.abandonSwap e s d).trans ((StandsAt.modDistrict fun he => absurd he h).trans (.leaveFor h _ _ _))

/-- What the entry to OFF leaves at its district, whatever the record was (R11). -/
theorem State.toOff_district (s : State) (d : DistrictId) :
    (s.toOff d).district d = ((s.district d).recordSoak .aborted).enter .off := by
  rw [State.toOff_eq]
  split
  · have off : ((s.leftForOff d).district d).state = .off := by rw [State.leftForOff_district]; rfl
    rw [(Notices.soakEndNotice _ _ _ _ _).bystander d (by simp [off]) (by simp [off]), State.leftForOff_district]
  · exact s.leftForOff_district d

theorem State.toOff_dset (s : State) (d e : DistrictId) : (s.toOff d).dset e = s.dset e := by
  rw [State.toOff_eq]
  split
  · rw [(Notices.soakEndNotice _ _ _ _ _).dset, State.leftForOff_dset]
  · exact s.leftForOff_dset d e

theorem StandsAt.toOff {e d : DistrictId} (h : e ≠ d) (s : State) : StandsAt e s (s.toOff d) := by
  rw [State.toOff_eq]
  split
  · exact (StandsAt.leftForOff h s).trans (.soakEndNotice e _ _ _ _ _)
  · exact .leftForOff h s

/-- An entry to OFF leaves a lawful record even where a port has just put its mark on a district in service (R12). -/
theorem District.offRecord_lawful {r : District} (h : r.Stable) : ((r.recordSoak .aborted).enter .off).Lawful := by
  rw [District.recordSoak_eq]
  exact District.enter_lawful ⟨h.window, h.suspect, h.stats, h.acct⟩ (.inl rfl) (by simp) (by simp [DState.isSwap])
    (by simp)

theorem District.offRecord_fits {r : District} {ds : DistrictSet} (f : r.FitsSettings ds) :
    ((r.recordSoak .aborted).enter .off).FitsSettings ds := by
  rw [District.recordSoak_eq]
  exact District.enter_fits f (.inl rfl) (by simp [DState.isSwap])

theorem KeepsAt.toOff (e : DistrictId) (s : State) (d : DistrictId) : KeepsAt e s (s.toOff d) := by
  by_cases h : e = d
  · subst h
    refine ⟨fun l => ?_, fun _ f => ?_⟩
    · rw [State.toOff_district]; exact District.offRecord_lawful l.stable
    · rw [State.toOff_district, State.toOff_dset]; exact District.offRecord_fits f
  · exact (StandsAt.toOff h s).keeps

theorem StandsAt.darken {e d : DistrictId} {s : State} (f : FeedId) (h : (s.district d).state ≠ .off) :
    StandsAt e s (s.darken f d) := by
  unfold State.darken
  refine (StandsAt.abandonSwap e s d).trans ((StandsAt.modDistrict fun _ => ?_).trans (.modFeed e _ f _))
  have recorded : ((s.abandonSwap d).district d).Stands ((s.abandonSwap d).dset d)
      (((s.abandonSwap d).district d).recordSoak .aborted) := ⟨.recordSoak _ _ _, by simp, by simp⟩
  exact recorded.trans (.enter (by simpa [State.abandonSwap_district] using h) (by simp))

theorem StandsAt.darkenAll (e : DistrictId) (f : FeedId) (ds : List DistrictId) (s : State)
    (h : ∀ d ∈ ds, (s.district d).state ≠ .off) : StandsAt e s (ds.foldl (State.darken f) s) := by
  induction ds generalizing s with
  | nil => exact .refl e s
  | cons d ds ih =>
    have one := fun x => StandsAt.darken (e := x) f (h d (by simp))
    exact (one e).trans (ih _ fun x hx => by rw [Ne, (one x).off]; exact h x (by simp [hx]))

theorem State.toDarken_not_off {s : State} {f : FeedId} {d : DistrictId} (h : d ∈ s.toDarken f) :
    (s.district d).state ≠ .off := by
  unfold State.toDarken at h
  intro k
  simp [k, DState.darkens] at h

theorem KeepsAt.deferredCopies (e : DistrictId) (ds : List DistrictId) (s : State) :
    KeepsAt e s (ds.foldl State.deferredCopy s) := by
  induction ds generalizing s with
  | nil => exact .refl e s
  | cons d ds ih => exact (KeepsAt.deferredCopy e s d).trans (ih _)

theorem StandsAt.capture (e : DistrictId) (s : State) (f : FeedId) : StandsAt e s (s.capture f) := by
  have raised : ∀ (ds : List DistrictId) (t : State), StandsAt e t
      (ds.foldl (fun s d => s.modDistrict d (fun r => { r with suspect := min 2 (r.suspect + 1) })) t) := by
    intro ds
    induction ds with
    | nil => exact .refl e
    | cons d ds ih =>
      intro t
      refine StandsAt.trans (.modDistrict fun _ => ⟨⟨fun l => ?_, fun _ f => f⟩, .rfl, rfl⟩) (ih _)
      exact l.of_same_fields ⟨l.stable.window, Nat.min_le_left _ _, l.stable.stats, l.stable.acct⟩
        ⟨rfl, rfl, .inl rfl, rfl, rfl, rfl, rfl, rfl, rfl, rfl, rfl⟩
  exact (StandsAt.modFeed e s f _).trans (raised _ _)

theorem StandsAt.abortAnyWalk (e : DistrictId) (s : State) (f : FeedId) : StandsAt e s (s.abortAnyWalk f) := by
  unfold State.abortAnyWalk
  split <;> exact .of_eq rfl rfl

theorem KeepsAt.acceptFault (e : DistrictId) (s : State) (f : FeedId) : KeepsAt e s (s.acceptFault f) := by
  unfold State.acceptFault
  have dark := StandsAt.darkenAll e f ((s.capture f).toDarken f) (s.capture f) fun _ => State.toDarken_not_off
  exact ((StandsAt.capture e s f).trans (dark.trans ((StandsAt.modFeed e _ f _).trans ((StandsAt.abortAnyWalk e _ f).trans
    ((StandsAt.modFeed e _ f _).trans (.post e _ _)))))).keeps.trans ((KeepsAt.deferredCopies e _ _).trans
      ((StandsAt.copyWaitingFeed e _ f).trans (.copyWaitingChains e _)).keeps)

theorem KeepsAt.cycle (e : DistrictId) (s : State) (p : Port) (f : FeedId) : KeepsAt e s (s.cycle p f) := by
  unfold State.cycle
  have dark := StandsAt.darkenAll e f (s.toDarken f) s fun _ => State.toDarken_not_off
  exact (dark.trans (.modFeed e _ f _)).keeps.trans ((KeepsAt.deferredCopies e _ _).trans
    (StandsAt.startWalk e _ f _ _).keeps)

/-! ## Expiries and fault lines (R20, R49, R83, R98, R103, R130) -/

theorem KeepsAt.coolDownExpires (e : DistrictId) (s : State) (d : DistrictId) : KeepsAt e s (s.coolDownExpires d) := by
  unfold State.coolDownExpires
  split
  · exact (StandsAt.join fun _ => by simp_all).keeps
  · exact .refl e s

theorem KeepsAt.settleExpires (e : DistrictId) (s : State) (d : DistrictId) : KeepsAt e s (s.settleExpires d) := by
  unfold State.settleExpires
  split
  · refine (StandsAt.modDistrict fun _ => ⟨⟨fun l => ?_, fun _ f => ?_⟩, .rfl, rfl⟩).keeps.trans (StandsAt.post e _ _).keeps
    · exact l.of_same_state ⟨l.stable.window, l.stable.suspect, l.stable.stats, l.stable.acct⟩
        ⟨rfl, rfl, .inl rfl, rfl, rfl, rfl⟩ l.live_of_deferral l.live_of_grace l.tripped_of_coolDown (by simp)
        l.swapping_of_deadTime
    · obtain ⟨-, hq, hu, hs, hp, hg, hd⟩ := f
      exact ⟨Nat.zero_le _, hq, hu, hs, hp, hg, hd⟩
  · exact .refl e s

theorem District.swapCheck_eq_enter (r : District) (n : Nat) :
    { r.enter .swapCheck with checkCount := some n } = ({ r with checkCount := some n } : District).enter .swapCheck := by
  simp [District.enter, DState.energised]

theorem KeepsAt.deadTimeExpires (e : DistrictId) (s : State) (d : DistrictId) : KeepsAt e s (s.deadTimeExpires d) := by
  unfold State.deadTimeExpires
  split
  case isTrue h =>
    refine .modDistrict fun _ => ?_
    rw [District.swapCheck_eq_enter]
    refine ⟨fun l => ?_, fun _ f => ?_⟩
    · exact District.enter_lawful ⟨l.stable.window, l.stable.suspect, l.stable.stats, l.stable.acct⟩
        (.inr (l.no_holds (by simp [h.1]))) (by simp) (fun _ => l.preSwap_iff.2 (.inl h.1)) (fun _ => rfl)
    · have reversing : (s.dset d).kind = .reversing := by
        obtain ⟨-, -, -, hs, -⟩ := f
        exact hs (.inl h.1)
      exact District.enter_fits (r := { s.district d with checkCount := some 0 }) f (.inr (by simp [reversing]))
        (fun _ => reversing)
  case isFalse => exact .refl e s

theorem KeepsAt.lineChanges (e : DistrictId) (s : State) (f : FeedId) (level : Level) :
    KeepsAt e s (s.lineChanges f level) := by
  unfold State.lineChanges
  split
  · exact .refl e s
  · split
    · dsimp only
      split
      · exact (StandsAt.modFeed e s f _).keeps.trans (.acceptFault e _ f)
      · exact (StandsAt.modFeed e s f _).keeps
    · exact (StandsAt.modFeed e s f _).keeps

theorem KeepsAt.acceptHealthy (e : DistrictId) (s : State) (f : FeedId) : KeepsAt e s (s.acceptHealthy f) := by
  have risen := fun (t : State) (g : Feed → Feed) (ev : Event) (k : Feed → Feed) =>
    (StandsAt.modFeed e t f g).trans ((StandsAt.post e _ ev).trans (.modFeed e _ f k))
  unfold State.acceptHealthy
  dsimp only
  split
  · exact (risen s _ _ _).keeps
  · exact ((risen s _ _ _).trans (.startWalk e _ f _ _)).keeps

theorem KeepsAt.pauseExpires (e : DistrictId) (s : State) (f : FeedId) : KeepsAt e s (s.pauseExpires f) := by
  unfold State.pauseExpires
  split
  · exact ((StandsAt.modWalk e s f _).trans (.followLink e _ f)).keeps
  · exact .refl e s

/-! ## Requests (R9 to R17, R43, R148 to R154) -/

/-- A part that does nothing in reset keeps what its act keeps. -/
theorem KeepsAt.whenRunning {e : DistrictId} {s : State} {act : State → State} (h : KeepsAt e s (act s)) :
    KeepsAt e s (s.whenRunning act) := by
  unfold State.whenRunning
  split
  · exact .refl e s
  · exact h

theorem StandsAt.takeRequest (e : DistrictId) (s : State) (p : Port) : StandsAt e s (s.takeRequest p) := by
  unfold State.takeRequest
  split <;> exact .of_eq rfl rfl

/-- A request keeps what its owner's effect keeps (R159). -/
theorem KeepsAt.serve {e : DistrictId} (s : State) (i : Instr) {body : State → State × Reply}
    (h : ∀ t, KeepsAt e t (body t).1) : KeepsAt e s (s.serve i body) := by
  unfold State.serve
  split
  · exact .refl e s
  · refine .whenRunning ?_
    split
    · exact .refl e s
    · split
      · exact .of_eq rfl rfl
      · dsimp only
        split
        · exact (StandsAt.takeRequest e s _).keeps.trans ((h _).trans (.of_eq rfl rfl))
        · exact (StandsAt.takeRequest e s _).keeps.trans (.of_eq rfl rfl)

/-- A mask command keeps what its rule keeps at a district that is not UNUSED (R9). -/
theorem KeepsAt.maskCommand {e : DistrictId} (p : Port) (c : Command) (mask : Half)
    {rule : DistrictId → State → State × Verdict}
    (h : ∀ d t, (State.dset t d).kind ≠ .unused → KeepsAt e t (rule d t).1) (s : State) :
    KeepsAt e s (maskCommand p c mask rule s).1 := by
  have one : ∀ (t : Tally) (d : DistrictId), KeepsAt e t.state (Tally.step p c rule t d).state := fun t d => by
    unfold Tally.step
    split
    · exact .refl e _
    · split
      · have posted : KeepsAt e (rule d t.state).1 ((rule d t.state).1.postCommandState p c d) := .of_eq rfl rfl
        refine (h d t.state ‹_›).trans (posted.trans ?_)
        unfold State.copyAfter
        dsimp only
        split
        · exact .deferredCopy e _ d
        · exact .refl e _
      · exact .refl e _
      · exact .refl e _
  have all : ∀ (ds : List DistrictId) (t : Tally), KeepsAt e t.state (ds.foldl (Tally.step p c rule) t).state := by
    intro ds
    induction ds with
    | nil => exact fun t => .refl e _
    | cons d ds ih => exact fun t => (one t d).trans (ih _)
  exact all (namedDistricts mask) { state := s, done := [], unchanged := [], refused := [] }

/-- A district that no port holds and that is not UNUSED returns to service (R10, R15). -/
theorem KeepsAt.returnToService {e d : DistrictId} {s : State}
    (h : (s.district d).holds.isEmpty = true ∨ (s.district d).state ≠ .off) (hk : (s.dset d).kind ≠ .unused) :
    KeepsAt e s (s.returnToService d) := by
  have enters : ∀ st, st = .dark ∨ st = .queued → KeepsAt e s (s.modDistrict d (fun r => r.enter st)) := fun st hst =>
    .modDistrict fun _ =>
      ⟨fun l => District.enter_rest_lawful l (by rcases hst with rfl | rfl <;> simp) (.inr h.symm),
       fun _ f => District.enter_fits f (.inr hk) (by rcases hst with rfl | rfl <;> simp [DState.isSwap])⟩
  unfold State.returnToService
  split
  · exact (enters .queued (.inr rfl)).trans ((StandsAt.modFeed e _ _ _).trans (.runGrantRule e _ _)).keeps
  · exact enters .dark (.inl rfl)

theorem KeepsAt.enableRule (e d : DistrictId) (s : State) (hk : (s.dset d).kind ≠ .unused) :
    KeepsAt e s (enableRule d s).1 := by
  unfold Machine.enableRule
  split
  · split
    case isTrue h =>
      refine KeepsAt.trans (.modDistrict fun _ => ⟨id, fun _ f => ?_⟩)
        (.returnToService (.inl (by simpa using h)) (by simpa using hk))
      obtain ⟨-, hq, hu, hs, hp, hg, hd⟩ := f
      exact ⟨Nat.zero_le _, hq, hu, hs, hp, hg, hd⟩
    case isFalse => exact .refl e s
  all_goals exact .refl e s

theorem KeepsAt.clearRule (e d : DistrictId) (s : State) (hk : (s.dset d).kind ≠ .unused) :
    KeepsAt e s (clearRule d s).1 := by
  unfold Machine.clearRule
  split
  case isTrue h =>
    refine KeepsAt.trans (.modDistrict fun _ => ⟨fun l => ?_, fun _ f => ?_⟩)
      (.returnToService (.inr (by simp [h])) (by simpa using hk))
    · exact l.of_same_fields ⟨l.stable.window, Nat.zero_le _, l.stable.stats, l.stable.acct⟩
        ⟨rfl, rfl, .inl rfl, rfl, rfl, rfl, rfl, rfl, rfl, rfl, rfl⟩
    · obtain ⟨-, hq, hu, hs, hp, hg, hd⟩ := f
      exact ⟨Nat.zero_le _, hq, hu, hs, hp, hg, hd⟩
  case isFalse => exact .refl e s

theorem KeepsAt.disableRule (e d : DistrictId) (s : State) : KeepsAt e s (disableRule d s).1 := by
  unfold Machine.disableRule
  split
  · exact .refl e s
  · exact .toOff e s d

theorem KeepsAt.holdRule (e : DistrictId) (p : Port) (d : DistrictId) (s : State) :
    KeepsAt e s (holdRule p d s).1 := by
  unfold Machine.holdRule
  split
  · exact .refl e s
  · dsimp only
    have other : e ≠ d → StandsAt e s (s.modDistrict d (fun r => { r with holds := r.holds.put true p })) := fun he =>
      .modDistrict fun k => absurd k he
    split
    case isTrue off =>
      rw [State.district_modDistrict_same] at off
      exact .modDistrict fun _ => ⟨fun l => l.of_same_fields ⟨l.stable.window, l.stable.suspect, l.stable.stats, l.stable.acct⟩
        ⟨rfl, rfl, .inr off, rfl, rfl, rfl, rfl, rfl, rfl, rfl, rfl⟩, fun _ f => f⟩
    case isFalse =>
      by_cases he : e = d
      · subst he
        refine ⟨fun l => ?_, fun l f => ?_⟩
        · rw [State.toOff_district, State.district_modDistrict_same]
          exact District.offRecord_lawful ⟨l.stable.window, l.stable.suspect, l.stable.stats, l.stable.acct⟩
        · rw [State.toOff_district, State.district_modDistrict_same, State.toOff_dset]
          exact District.offRecord_fits (r := { s.district e with holds := (s.district e).holds.put true p }) f
      · exact ((other he).trans (.toOff he _)).keeps

/-- A port's mark that goes leaves no other mark in its place. -/
theorem HoldSet.marked_of_put_false {h : HoldSet} (p : Port)
    (k : (h.put false p).a = true ∨ (h.put false p).b = true ∨ (h.put false p).c = true) :
    h.a = true ∨ h.b = true ∨ h.c = true := by
  cases p <;> simp [HoldSet.put] at k <;> tauto

theorem KeepsAt.releaseRule (e : DistrictId) (q : Port) (d : DistrictId) (s : State) :
    KeepsAt e s (releaseRule q d s).1 := by
  unfold Machine.releaseRule
  split
  · dsimp only
    refine .modDistrict fun _ => ⟨fun l => ?_, fun _ f => f⟩
    obtain ⟨hsw, hh, rest⟩ := l
    exact ⟨hsw, fun k => hh (HoldSet.marked_of_put_false q k), rest⟩
  · exact .refl e s

theorem KeepsAt.markSeenRule (e d : DistrictId) (s : State) : KeepsAt e s (markSeenRule d s).1 := by
  unfold Machine.markSeenRule
  split
  · dsimp only
    exact .modDistrict fun _ => ⟨id, fun _ f => f⟩
  · exact .refl e s

theorem KeepsAt.resetStatsRule (e d : DistrictId) (s : State) : KeepsAt e s (resetStatsRule d s).1 := by
  unfold Machine.resetStatsRule
  split
  · exact .refl e s
  · dsimp only
    exact .modDistrict fun _ => ⟨fun l => l.with_stats (by simp [zeroStats, zeroCounter]), fun _ f => f⟩

theorem KeepsAt.applyDistrict (e : DistrictId) (p : Port) (named : Half) (t : ApplyTally) (d : DistrictId) :
    KeepsAt e t.state (t.district p named d).state := by
  have corrected := fun x => StandsAt.correct x t.state named (.port p) d
  unfold ApplyTally.district
  dsimp only
  split
  · refine (corrected e).keeps.trans ?_
    dsimp only
    exact .modDistrict fun _ => ⟨id, fun _ f => f⟩
  case isFalse h =>
    refine (corrected e).keeps.trans ?_
    by_cases he : e = d
    · subst he
      exact .copyDistrict (by simpa using h)
    · exact (StandsAt.copyDistrict he (by simpa using h)).keeps

theorem StandsAt.applyFeed (e : DistrictId) (t : ApplyTally) (f : FeedId) :
    StandsAt e t.state (t.feed f).state := by
  unfold ApplyTally.feed
  split
  · exact .copyFeed e _ f
  · exact .of_eq rfl rfl

theorem KeepsAt.applySettings (e : DistrictId) (p : Port) (districts : Half) (feeds : Byte) (s : State) :
    KeepsAt e s (State.applySettings p districts feeds s).1 := by
  have each : ∀ (ds : List DistrictId) (t : ApplyTally),
      KeepsAt e t.state (ds.foldl (ApplyTally.district p districts) t).state := by
    intro ds
    induction ds with
    | nil => exact fun t => .refl e _
    | cons d ds ih => exact fun t => (KeepsAt.applyDistrict e p districts t d).trans (ih _)
  have feedwise : ∀ (fs : List FeedId) (t : ApplyTally), KeepsAt e t.state (fs.foldl ApplyTally.feed t).state := by
    intro fs
    induction fs with
    | nil => exact fun t => .refl e _
    | cons f fs ih => exact fun t => (StandsAt.applyFeed e t f).keeps.trans (ih _)
  unfold State.applySettings
  split
  · exact .refl e s
  · dsimp only
    refine ((each (namedDistricts districts) { state := s, copied := [], deferred := [], corrected := []
                                               feedsCopied := [], feedsDeferred := [] }).trans
      (feedwise (namedFeeds feeds) _)).trans ?_
    split
    · exact .refl e _
    · exact .of_eq rfl rfl

theorem KeepsAt.applyChains (e : DistrictId) (p : Port) (s : State) : KeepsAt e s (State.applyChains p s).1 := by
  unfold State.applyChains
  split <;> exact .of_eq rfl rfl

/-- A snapshot copies figures, and SNAPSHOT starts them again (R43, R44). -/
theorem KeepsAt.takeSnapshot (e : DistrictId) (p : Port) (keep : Bool) (s : State) :
    KeepsAt e s (State.takeSnapshot p keep s).1 := by
  have record : ((State.takeSnapshot p keep s).1).district e =
      if keep = true then (s.district e).copyFigures else (s.district e).copyFigures.restartFigures := by
    simp [State.takeSnapshot, State.post, State.district]
  refine ⟨fun l => ?_, fun _ f => ?_⟩
  · rw [record]
    split
    · exact l
    · exact l.of_same_fields ⟨l.stable.window, l.stable.suspect, l.stable.stats, by
        show zeroAccounting.InRange
        decide⟩
        ⟨rfl, rfl, .inl rfl, rfl, rfl, rfl, rfl, rfl, rfl, rfl, rfl⟩
  · rw [record]
    split <;> exact f

theorem KeepsAt.feedCommand {e : DistrictId} {act : FeedId → State → State × Reply}
    (h : ∀ f t, KeepsAt e t (act f t).1) (number : Byte) (s : State) : KeepsAt e s (feedCommand number act s).1 := by
  unfold Machine.feedCommand
  split
  · exact .refl e s
  · exact h _ s

theorem KeepsAt.cycleRule (e : DistrictId) (p : Port) (f : FeedId) (s : State) : KeepsAt e s (cycleRule p f s).1 := by
  unfold Machine.cycleRule
  split
  · exact .cycle e s p f
  · exact .refl e s

theorem KeepsAt.haltRule (e : DistrictId) (p : Port) (f : FeedId) (s : State) : KeepsAt e s (haltRule p f s).1 := by
  unfold Machine.haltRule
  split
  · exact (StandsAt.haltWalk e s f _ _).keeps
  · exact .refl e s

theorem StandsAt.resumeWalk (e : DistrictId) (s : State) (p : Port) (f : FeedId) : StandsAt e s (s.resumeWalk p f) := by
  have begun := fun (t : State) (g : Feed → Feed) (ev : Event) => (StandsAt.modFeed e t f g).trans (.post e _ ev)
  unfold State.resumeWalk
  dsimp only
  split
  · exact (begun s _ _).trans (.pauseOrLink (fun pos t => .visit e _ f pos t) _)
  · exact (begun s _ _).trans (.resumeEntry e _ f)
  · exact begun s _ _
  · exact begun s _ _

theorem KeepsAt.resumeRule (e : DistrictId) (p : Port) (f : FeedId) (s : State) : KeepsAt e s (resumeRule p f s).1 := by
  unfold Machine.resumeRule
  split
  · exact (StandsAt.resumeWalk e s p f).keeps
  · exact .refl e s

theorem KeepsAt.endRule (e : DistrictId) (p : Port) (f : FeedId) (s : State) : KeepsAt e s (endRule p f s).1 := by
  unfold Machine.endRule
  split
  · exact (StandsAt.endWalk e s f _ _).keeps
  · exact .refl e s

theorem KeepsAt.clearErrorsRule (e : DistrictId) (f : FeedId) (s : State) : KeepsAt e s (clearErrorsRule f s).1 :=
  (StandsAt.modWalk e s f _).keeps

/-! ## Starts and time (R5, R8, R172) -/

/-- The record a start leaves (R8, R172). -/
theorem State.startUp_district (s : State) (pin : Bool) (pins : StartPins) (e : DistrictId) :
    (s.startUp pin pins).district e = resetDistrict (startState pins.autost ((s.startUp pin pins).dset e)) := by
  simp [State.startUp, State.post, State.cleared, State.district, State.dset, Image.district]

/-- A start leaves a lawful record that fits its settings, whatever was there (R8). -/
theorem KeepsAt.startUp (e : DistrictId) (s : State) (pin : Bool) (pins : StartPins) : KeepsAt e s (s.startUp pin pins) := by
  have record := s.startUp_district pin pins e
  have start : startState pins.autost ((s.startUp pin pins).dset e) = .off ∨
      startState pins.autost ((s.startUp pin pins).dset e) = .dark ∧ ((s.startUp pin pins).dset e).kind ≠ .unused := by
    unfold startState
    split
    case isTrue h => exact .inr ⟨rfl, h.2⟩
    case isFalse => exact .inl rfl
  have lawful : ((s.startUp pin pins).district e).Lawful := by
    rw [record]
    rcases start with k | ⟨k, -⟩ <;> rw [k] <;> decide
  refine ⟨fun _ => lawful, fun _ _ => lawful.fits_at_rest ?_ ?_ (fun hu => ?_) ?_⟩
  · rw [record]
    exact start.imp_right fun k => .inl k.1
  · rw [record]; exact Nat.zero_le _
  · rw [record]
    exact start.elim id fun k => absurd hu k.2
  · rw [record]; simp [resetDistrict]

/-- A millisecond counts timers down and starts or stops none (R5). -/
theorem StandsAt.tick (e : DistrictId) (s : State) : StandsAt e s s.tick := by
  have record : s.tick.district e = (s.district e).tick := by simp [State.tick, State.district]
  refine ⟨?_, rfl⟩
  rw [record]
  refine ⟨⟨fun l => ?_, fun _ f => f⟩, .rfl, rfl⟩
  exact l.of_same_state ⟨l.stable.window, l.stable.suspect, l.stable.stats, l.stable.acct⟩
    ⟨rfl, rfl, .inl rfl, rfl, rfl, rfl⟩ l.live_of_deferral l.live_of_grace
    (by simpa [District.tick, Timer.tick] using l.tripped_of_coolDown)
    (by simpa [District.tick, Timer.tick] using l.settles_of_settle)
    (by simpa [District.tick, Timer.tick] using l.swapping_of_deadTime)

/-! ## Every command, every step -/

/-- A read leaves every record as it is. -/
theorem KeepsAt.read {e : DistrictId} (s : State) (i : Instr) (reply : State → Reply) :
    KeepsAt e s (s.serve i (fun t => (t, reply t))) := .serve s i fun t => .refl e t

/-- Every command of the table keeps the laws at every district. -/
theorem KeepsAt.exec (e : DistrictId) (c : Instr) (s t : State) (h : exec c s = .next t) : KeepsAt e s t := by
  cases c with
  | powerOn pins => cases h; exact .startUp e s _ _
  | resetPin pins => cases h; exact .startUp e s _ _
  | sampleArrival d level =>
    cases h
    exact .whenRunning (.takeSample (Nat.min_le_left _ _))
  | coolDownExpiry d => cases h; exact .whenRunning (.coolDownExpires e s d)
  | settleExpiry d => cases h; exact .whenRunning (.settleExpires e s d)
  | deadTimeExpiry d => cases h; exact .whenRunning (.deadTimeExpires e s d)
  | lineChange f level => cases h; exact .whenRunning (.lineChanges e s f level)
  | debounceExpiry f =>
    cases h
    refine .whenRunning ?_
    split
    · exact .acceptHealthy e s f
    · exact .refl e s
  | pauseExpiry f => cases h; exact .whenRunning (.pauseExpires e s f)
  | lingerExpiry p =>
    cases h
    refine .whenRunning ?_
    split <;> exact .of_eq rfl rfl
  | interByteTimeout p =>
    cases h
    refine .whenRunning ?_
    split <;> exact .of_eq rfl rfl
  | rxByte p b stopBit => cases h; exact .whenRunning (.of_eq rfl rfl)
  | responseEnd p =>
    cases h
    refine .whenRunning ?_
    split <;> exact .of_eq rfl rfl
  | storeWriteEnd matched =>
    cases h
    refine .whenRunning ?_
    unfold State.writeEnds
    split <;> exact .of_eq rfl rfl
  | readDistrict p n => cases h; exact .read s _ _
  | readDistrictStats p n => cases h; exact .read s _ _
  | readFeed p n => cases h; exact .read s _ _
  | readQueue p n => cases h; exact .read s _ _
  | readSettings p sel n img => cases h; exact .read s _ _
  | readChainEntry p i img => cases h; exact .read s _ _
  | readSnapshot p n => cases h; exact .read s _ _
  | readEvents p n =>
    cases h
    refine .serve s _ fun u => ?_
    unfold State.readEvents
    split <;> exact .of_eq rfl rfl
  | readPortStatus p o =>
    cases h
    refine .serve s _ fun u => ?_
    unfold State.readPortStatus
    split
    · exact .of_eq rfl rfl
    · split <;> exact .of_eq rfl rfl
  | setAttention p tr l =>
    cases h
    refine .serve s _ fun u => ?_
    unfold State.setAttention
    split <;> exact .of_eq rfl rfl
  | enable p m => cases h; exact .serve s _ (.maskCommand p _ m fun d u => .enableRule e d u)
  | disable p m => cases h; exact .serve s _ (.maskCommand p _ m fun d u _ => .disableRule e d u)
  | hold p m => cases h; exact .serve s _ (.maskCommand p _ m fun d u _ => .holdRule e p d u)
  | release p m => cases h; exact .serve s _ (.maskCommand p _ m fun d u _ => .releaseRule e p d u)
  | releaseForeign p m k =>
    cases h
    refine .serve s _ fun u => ?_
    unfold Machine.releaseForeign
    split
    · exact .refl e u
    · exact .maskCommand p _ m (fun d v _ => .releaseRule e _ d v) u
  | clear p m => cases h; exact .serve s _ (.maskCommand p _ m fun d u => .clearRule e d u)
  | markSeen p m => cases h; exact .serve s _ (.maskCommand p _ m fun d u _ => .markSeenRule e d u)
  | resetStats p m => cases h; exact .serve s _ (.maskCommand p _ m fun d u _ => .resetStatsRule e d u)
  | snapshot p => cases h; exact .serve s _ (.takeSnapshot e p false)
  | snapshotKeep p => cases h; exact .serve s _ (.takeSnapshot e p true)
  | setDistrict p n k v =>
    cases h
    refine .serve s _ fun u => ?_
    unfold State.writeDistrict
    split
    · exact .refl e u
    · split <;> exact .of_eq rfl rfl
  | setFeed p n k v =>
    cases h
    refine .serve s _ fun u => ?_
    unfold State.writeFeed
    split
    · exact .refl e u
    · split <;> exact .of_eq rfl rfl
  | setChainEntry p i en =>
    cases h
    refine .serve s _ fun u => ?_
    unfold State.writeChainEntry
    split <;> exact .of_eq rfl rfl
  | apply p ds fs => cases h; exact .serve s _ (.applySettings e p ds fs)
  | applyChains p => cases h; exact .serve s _ (.applyChains e p)
  | save p =>
    cases h
    refine .serve s _ fun u => ?_
    unfold State.saveStarts
    split <;> exact .of_eq rfl rfl
  | cycleFeed p n => cases h; exact .serve s _ (.feedCommand (.cycleRule e p) n)
  | haltWalk p n => cases h; exact .serve s _ (.feedCommand (.haltRule e p) n)
  | resumeWalk p n => cases h; exact .serve s _ (.feedCommand (.resumeRule e p) n)
  | endWalk p n => cases h; exact .serve s _ (.feedCommand (.endRule e p) n)
  | clearWalkErrors p n => cases h; exact .serve s _ (.feedCommand (.clearErrorsRule e) n)
  | resetAsserted => cases h; exact .of_eq rfl rfl

/-- Every step keeps the laws at every district: a command from the queue, one that is due, or a millisecond. -/
theorem KeepsAt.step (e : DistrictId) (s t : State) (h : step s = .next t) : KeepsAt e s t := by
  unfold Machine.step at h
  split at h
  case _ rest _ =>
    have queue : KeepsAt e s { s with pending := rest } := .of_eq rfl rfl
    exact queue.trans (.exec e _ _ t h)
  · split at h
    · exact .exec e _ s t h
    · cases h
      exact .whenRunning (StandsAt.tick e s).keeps

/-- Settles O51: every command and every millisecond keeps the laws at each district, record by record. -/
theorem everyStepKeepsTheDistrictLaws : Obligations.EveryStepKeepsTheDistrictLaws := by
  intro s t hs ht d
  have keeps := KeepsAt.step d s t ht
  obtain ⟨lawful, fits⟩ := hs d
  exact ⟨keeps.lawful lawful, keeps.fits lawful fits⟩

end Sys2Proof.Machine
end

section
/-! # What the part does by itself, its outputs, and its starts (log 2; R2, R3, R5, R157, R168, R172) -/

namespace Sys2Proof.Machine

/-! ## The empty queue (log 2) -/

/-- All that is due, in the order in which the part takes it (log 2). -/
def State.allDue (s : State) : List Instr :=
  allDistricts.flatMap s.dueAtDistrict ++ allFeeds.flatMap s.dueAtFeed ++ allPorts.flatMap s.dueAtPort ++ s.dueAtStore

theorem State.dueCommand_of_running {s : State} (h : s.inReset = false) : s.dueCommand = s.allDue.head? := by
  simp [State.dueCommand, State.allDue, h]

theorem DState.settles_iff (st : DState) : st.settles = true ↔ st = .live ∨ st = .swapping ∨ st = .swapCheck := by
  cases st <;> simp [DState.settles]

theorem State.mem_dueAtDistrict {s : State} {d : DistrictId} {c : Instr} :
    c ∈ s.dueAtDistrict d ↔
      (c = .coolDownExpiry d ∧ (s.district d).state = .tripped ∧ (s.district d).coolDown = some 0) ∨
      (c = .settleExpiry d ∧ (s.district d).settle = some 0 ∧
        ((s.district d).state = .live ∨ (s.district d).state = .swapping ∨ (s.district d).state = .swapCheck)) ∨
      (c = .deadTimeExpiry d ∧ (s.district d).state = .swapping ∧ (s.district d).deadTime = some 0) := by
  have guarded : ∀ {q : Prop} [Decidable q] {i : Instr}, c ∈ (if q then [i] else []) ↔ c = i ∧ q := fun {q} _ {i} => by
    split <;> simp [*]
  simp only [State.dueAtDistrict, List.mem_append, guarded, DState.settles_iff]
  tauto

theorem State.mem_dueAtFeed {s : State} {f : FeedId} {c : Instr} :
    c ∈ s.dueAtFeed f ↔ (c = .debounceExpiry f ∧ (s.feed f).debounce = some 0) ∨
      (c = .pauseExpiry f ∧ (s.walk f).phase = .pausing ∧ (s.walk f).pause = some 0) := by
  simp only [State.dueAtFeed, State.walk, List.mem_append]
  split <;> split <;> simp_all

theorem State.mem_dueAtPort {s : State} {p : Port} {c : Instr} :
    c ∈ s.dueAtPort p ↔ (c = .interByteTimeout p ∧ (s.port p).interByte = some 0) ∨
      (c = .lingerExpiry p ∧ (s.port p).lingerTimer = some 0) ∨ (s.port p).request = some c := by
  simp only [State.dueAtPort, List.mem_append, Option.mem_toList]
  split <;> split <;> simp_all [or_assoc]

theorem State.mem_dueAtStore {s : State} {c : Instr} :
    c ∈ s.dueAtStore ↔ ∃ w, s.nv.writing = some w ∧ w.remaining = 0 ∧
      c = .storeWriteEnd (Config.readBackMatches s.nv.writes) := by
  unfold State.dueAtStore
  cases s.nv.writing with
  | none => simp
  | some w => by_cases h : w.remaining = 0 <;> simp [h]

/-- What the part takes by itself is what the rules call due. -/
theorem State.mem_allDue {s : State} {c : Instr} : c ∈ s.allDue ↔ s.IsDue c := by
  have feeds : ∀ f : FeedId, f ∈ allFeeds := by decide
  have ports : ∀ p : Port, p ∈ allPorts := fun p => by cases p <;> decide
  simp only [State.allDue, List.mem_append, List.mem_flatMap, mem_allDistricts, feeds, ports, true_and,
    State.mem_dueAtDistrict, State.mem_dueAtFeed, State.mem_dueAtPort, State.mem_dueAtStore, exists_or, or_assoc]

/-- Settles O2: the list of what is due is the rules' (`State.mem_allDue`), and its head is taken. -/
theorem emptyQueueTakesWhatIsDueOrAMillisecond : Obligations.EmptyQueueTakesWhatIsDueOrAMillisecond := by
  intro s hq
  refine ⟨fun hr => ?_, fun hr => ?_, fun hr none => ?_⟩
  · simp [step, hq, State.dueCommand, State.idle, State.whenRunning, hr]
  · rintro ⟨c, hc⟩
    obtain ⟨first, rest, hdue⟩ := List.exists_cons_of_ne_nil (List.ne_nil_of_mem (State.mem_allDue.2 hc))
    have taken : s.dueCommand = some first := by rw [State.dueCommand_of_running hr, hdue]; rfl
    exact ⟨first, taken, State.mem_allDue.1 (by simp [hdue]), by simp [step, hq, taken]⟩
  · have nothing : s.dueCommand = Option.none := by
      rw [State.dueCommand_of_running hr, List.head?_eq_none_iff, List.eq_nil_iff_forall_not_mem]
      exact fun c hc => none c (State.mem_allDue.1 hc)
    refine ⟨s.tick, by simp [step, hq, nothing, State.idle, State.whenRunning, hr], rfl, fun d => ?_, fun f => ?_,
      fun p => ?_, rfl, rfl, rfl, rfl, hq, hr, rfl⟩
    · simp [State.tick, State.district, District.tick, Timer.tick]
    · simp [State.tick, State.feed, Feed.tick, Timer.tick]
    · simp [State.tick, State.port, PortRecord.tick, Timer.tick]

/-! ## Outputs (R2, R3, R157, R168) -/

/-- The trigger that a code sets, as R161 lists them. -/
theorem triggerOf_eq (c : Fin 5) : triggerOf c = [1, 32, 64, 96, 112][c.val]'c.isLt := by
  revert c; decide

theorem PortRecord.attention_iff (q : PortRecord) :
    q.attention = true ↔ q.role ≠ .disabled ∧
      (triggerOf q.trigger ≤ q.unread ∨ q.lingerExpired = true ∧ 0 < q.unread) := by
  simp [PortRecord.attention]

/-- Settles O11: the outputs are read off the reset flag and the records. -/
theorem attentionFollowsTriggerAndLinger : Obligations.AttentionFollowsTriggerAndLinger := by
  refine ⟨fun s d => ⟨?_, ?_⟩, fun s p => rfl, fun s p => ?_⟩
  · simp [State.sw]
  · simp [State.pol]
  · rw [← triggerOf_eq, ← PortRecord.attention_iff]
    simp [State.atn]

/-! ## Starts (R8, R166, R172) -/

/-- The store a start finds: as it was, or with the write that was cut off ended and its check word erased (R171). -/
theorem Nv.cutOff_of_idle {n : Nv} (h : n.writing = none) : n.cutOff = n := by
  unfold Nv.cutOff; rw [h]

theorem Nv.cutOff_of_writing {n : Nv} (h : n.writing.isSome = true) :
    n.cutOff.check = none ∧ n.cutOff.writing = none := by
  unfold Nv.cutOff
  cases hw : n.writing with
  | none => simp [hw] at h
  | some w => exact ⟨rfl, rfl⟩

theorem Nv.valid_iff (n : Nv) : n.valid = true ↔ n.check = some n.image.check := by simp [Nv.valid]

theorem Nv.loaded_of_invalid {n : Nv} (h : n.check ≠ some n.image.check) : n.loaded = defaultImage := by
  unfold Nv.loaded
  rw [if_neg (by rw [Nv.valid_iff]; exact h)]

theorem Nv.loaded_of_valid {n : Nv} (h : n.check = some n.image.check) : n.loaded = n.image := by
  unfold Nv.loaded
  rw [if_pos (n.valid_iff.2 h)]

/-- A port after the append of POWER-UP (R166). -/
theorem PortRecord.resetPort_onAppend (role : Role) :
    (resetPort role).onAppend = { resetPort role with unread := if role = .disabled then 0 else 1 } := by
  cases role <;> rfl

/-- A start leaves every record, count and setting as R172 says. -/
theorem State.startUp_startedFrom (pin : Bool) (pins : StartPins) (s : State) :
    StartedFrom pin pins s (s.startUp pin pins) := by
  have loaded : (s.startUp pin pins).activeImage = s.nv.cutOff.loaded := rfl
  have role : ∀ p, ((s.startUp pin pins).port p).role = ((s.cleared pins).port p).role := fun p => by
    rw [State.startUp, State.port_post]
    exact (PortRecord.onAppend_frame _).1
  refine ⟨rfl, rfl, rfl, rfl, rfl, rfl, rfl, fun h => Nv.cutOff_of_idle h, fun h => Nv.cutOff_of_writing h, ?_, ?_, ?_,
    ?_, ?_, ?_, ?_, ?_, rfl, ?_, ?_⟩
  · intro idle valid
    rw [loaded, Nv.cutOff_of_idle idle, Nv.loaded_of_valid valid]
  · intro h
    rw [loaded]
    by_cases idle : s.nv.writing = none
    · rw [Nv.cutOff_of_idle idle]
      exact Nv.loaded_of_invalid (h.resolve_left (by simp [idle]))
    · refine Nv.loaded_of_invalid ?_
      rw [(Nv.cutOff_of_writing (Option.isSome_iff_ne_none.2 idle)).1]
      simp
  · intro d
    rw [State.startUp_district]
    rfl
  · intro f
    simp [State.startUp, State.post, State.cleared, State.feed, State.fset]
  · exact role .a
  · exact role .b
  · exact role .c
  · intro p
    have start : (s.cleared pins).port p = resetPort ((s.cleared pins).port p).role := by cases p <;> rfl
    rw [State.startUp, State.port_post, start, PortRecord.resetPort_onAppend]
    rfl
  · intro i hi
    rw [State.startUp, State.ring_post, Ring.append_elsewhere _ _ i (by exact hi)]
    simp [State.cleared, resetRing]
  · rw [role, role, role]
    have value : 64 * bit pins.autost = if pins.autost = true then 64 else 0 := by cases pins.autost <;> rfl
    have detail : bit pin + 2 * bit (!(s.cleared pins).nv.valid) =
        flagsNumber [pin, decide ((s.cleared pins).nv.check ≠ some (s.cleared pins).nv.image.check)] := by
      have invalid : (!(s.cleared pins).nv.valid) =
          decide ((s.cleared pins).nv.check ≠ some (s.cleared pins).nv.image.check) := by
        rw [Bool.eq_iff_iff, Bool.not_eq_true', ← Bool.not_eq_true, Nv.valid_iff, decide_eq_true_eq]
      simp only [flagsNumber, bit, invalid]
      omega
    rw [← value]
    refine Eq.trans (b := Event.entry _ 0) (Ring.append_at_write resetRing _) ?_
    simp only [Event.entry, detail]
    rfl

/-- Settles O12: the reset values are listed by evaluation, and both starts leave what `StartedFrom` says. -/
theorem aStartResetsEveryRecord : Obligations.AStartResetsEveryRecord := by
  refine ⟨⟨by decide, by decide, fun pins => ⟨rfl, rfl⟩⟩, fun st => rfl, fun raw ms => rfl, fun role => rfl,
    ⟨rfl, rfl, by decide, by decide, rfl⟩, ⟨by decide, by decide, by decide⟩, fun pins s => ⟨⟨_, rfl, ?_⟩, ⟨_, rfl, ?_⟩⟩⟩
  · exact s.startUp_startedFrom false pins
  · exact s.startUp_startedFrom true pins

end Sys2Proof.Machine
end

section
/-! # Reads of districts, and names that name nothing (R25, R26, R160) -/

namespace Sys2Proof.Machine

/-! ## Numbers on the line -/

theorem byteOf_toNat {n : Nat} (h : n < 256) : (byteOf n).toNat = n := by
  simp [byteOf, Nat.mod_eq_of_lt h]

@[simp] theorem districtOf_byteOf (d : DistrictId) : districtOf (byteOf d.val) = some d := by
  have small : (byteOf d.val).toNat = d.val := byteOf_toNat (by omega)
  simp [districtOf, small]

theorem districtOf_of_gt {b : Byte} (h : 15 < b.toNat) : districtOf b = none := dif_neg (by omega)

theorem feedOf_of_gt {b : Byte} (h : 3 < b.toNat) : feedOf b = none := dif_neg (by omega)

theorem entryOf_of_gt {b : Byte} (h : 63 < b.toNat) : entryOf b = none := dif_neg (by omega)

theorem Byte.eq_zero_iff (b : Byte) : b = 0 ↔ b.toNat = 0 := BitVec.toNat_eq

theorem Byte.eq_one_iff (b : Byte) : b = 1 ↔ b.toNat = 1 := BitVec.toNat_eq

theorem Byte.eq_two_iff (b : Byte) : b = 2 ↔ b.toNat = 2 := BitVec.toNat_eq

theorem portOfCode_of_gt {b : Byte} (h : 2 < b.toNat) : portOfCode b = none := by
  simp only [portOfCode, Byte.eq_zero_iff, Byte.eq_one_iff, Byte.eq_two_iff]
  rw [if_neg (by omega), if_neg (by omega), if_neg (by omega)]

theorem State.imageOf_of_gt {b : Byte} (h : 1 < b.toNat) (s : State) : s.imageOf b = none := by
  simp only [State.imageOf, Byte.eq_zero_iff, Byte.eq_one_iff]
  rw [if_neg (by omega), if_neg (by omega)]

/-- A selector, number or image that names nothing has no settings (R155). -/
theorem State.settingsBytes_of_bad {k n m : Byte} (s : State)
    (h : 1 < k.toNat ∨ 1 < m.toNat ∨ k.toNat = 0 ∧ 15 < n.toNat ∨ k.toNat = 1 ∧ 3 < n.toNat) :
    s.settingsBytes k n m = none := by
  unfold State.settingsBytes
  split
  · rfl
  · rename_i hi
    have hm : ¬1 < m.toNat := fun hm => by simp [State.imageOf_of_gt hm] at hi
    simp only [Byte.eq_zero_iff, Byte.eq_one_iff]
    rcases h with h | h | ⟨h, hn⟩ | ⟨h, hn⟩
    · rw [if_neg (by omega), if_neg (by omega)]
    · exact absurd h hm
    · rw [if_pos h, districtOf_of_gt hn]; rfl
    · rw [if_neg (by omega), if_pos h, feedOf_of_gt hn]; rfl

/-- An index or image that names nothing has no chain entry (R121). -/
theorem State.chainEntryBytes_of_bad {n m : Byte} (s : State) (h : 63 < n.toNat ∨ 1 < m.toNat) :
    s.chainEntryBytes n m = none := by
  unfold State.chainEntryBytes
  split
  · rfl
  · rename_i hi
    have hm : ¬1 < m.toNat := fun hm => by simp [State.imageOf_of_gt hm] at hi
    rw [entryOf_of_gt (h.resolve_right hm)]
    rfl

/-! ## BAD-TARGET (R160) -/

theorem State.readEvents_of_bad {n : Byte} (p : Port) (s : State) (h : n.toNat = 0 ∨ 8 < n.toNat) :
    State.readEvents p n s = (s, Reply.badTarget) := by
  unfold State.readEvents
  rw [if_pos (by rwa [Byte.eq_zero_iff])]

theorem State.readPortStatus_of_bad {k : Byte} (p : Port) (s : State) (h : 1 < k.toNat) :
    State.readPortStatus p k s = (s, Reply.badTarget) := by
  unfold State.readPortStatus
  rw [if_neg (by rw [Byte.eq_zero_iff]; omega), if_neg (by rw [Byte.eq_one_iff]; omega)]

theorem State.writeDistrict_of_bad {n k : Byte} (v : Half) (s : State) (h : 15 < n.toNat ∨ 15 < k.toNat) :
    State.writeDistrict n k v s = (s, Reply.badTarget) := by
  unfold State.writeDistrict
  split
  · rfl
  · rename_i hd
    rw [if_pos (h.resolve_left fun hn => by simp [districtOf_of_gt hn] at hd)]

theorem State.writeFeed_of_bad {n k : Byte} (v : Half) (s : State) (h : 3 < n.toNat ∨ 4 < k.toNat) :
    State.writeFeed n k v s = (s, Reply.badTarget) := by
  unfold State.writeFeed
  split
  · rfl
  · rename_i hf
    rw [if_pos (h.resolve_left fun hn => by simp [feedOf_of_gt hn] at hf)]

theorem feedCommand_of_gt {n : Byte} (h : 3 < n.toNat) (act : FeedId → State → State × Reply) (s : State) :
    feedCommand n act s = (s, Reply.badTarget) := by
  unfold feedCommand
  rw [feedOf_of_gt h]

/-- A request that its port may send, and whose owner answers BAD-TARGET without effect, has that answer (R160). -/
theorem State.serve_badTarget {i : Instr} {p : Port} {c : Command} {ps : List Byte} {s : State}
    (he : encodeRequest i = some (p, c, ps)) (hm : s.MayRequest p c) {body : State → State × Reply}
    (hb : body s = (s, Reply.badTarget)) :
    (.next (s.serve i body) : Host.Outcome State Fault Refusal) =
      .next (s.respond p c.code { status := .badTarget, data := [] }) := by
  rw [State.serve_of_permits he hm.1 hm.2.1 hm.2.2, hb]
  rfl

/-- Settles O40: for every request that carries a name, the owner finds nothing under a name out of range. -/
theorem namesOutOfRangeAreBadTargets : Obligations.NamesOutOfRangeAreBadTargets := by
  intro i p c ps s he hm bad
  have none_reads : ∀ {data : Option (List Byte)}, data = none → (s, readReply data) = (s, Reply.badTarget) := by
    rintro _ rfl; rfl
  cases i with
  | readDistrict q n => exact State.serve_badTarget he hm (none_reads (by rw [districtOf_of_gt bad]; rfl))
  | readDistrictStats q n => exact State.serve_badTarget he hm (none_reads (by rw [districtOf_of_gt bad]; rfl))
  | readFeed q n => exact State.serve_badTarget he hm (none_reads (by rw [feedOf_of_gt bad]; rfl))
  | readQueue q n => exact State.serve_badTarget he hm (none_reads (by rw [feedOf_of_gt bad]; rfl))
  | readSettings q k n m => exact State.serve_badTarget he hm (none_reads (s.settingsBytes_of_bad bad))
  | readChainEntry q n m => exact State.serve_badTarget he hm (none_reads (s.chainEntryBytes_of_bad bad))
  | readSnapshot q n => exact State.serve_badTarget he hm (none_reads (by rw [districtOf_of_gt bad]; rfl))
  | readEvents q n => exact State.serve_badTarget he hm (State.readEvents_of_bad q s bad)
  | readPortStatus q k => exact State.serve_badTarget he hm (State.readPortStatus_of_bad q s bad)
  | releaseForeign q m k =>
    refine State.serve_badTarget he hm ?_
    unfold releaseForeign
    rw [portOfCode_of_gt bad]
  | setDistrict q n k v => exact State.serve_badTarget he hm (State.writeDistrict_of_bad v s bad)
  | setFeed q n k v => exact State.serve_badTarget he hm (State.writeFeed_of_bad v s bad)
  | setChainEntry q n e =>
    refine State.serve_badTarget he hm ?_
    unfold State.writeChainEntry
    rw [entryOf_of_gt bad]
  | apply q ds fs => exact State.serve_badTarget he hm (if_pos bad)
  | cycleFeed q n => exact State.serve_badTarget he hm (feedCommand_of_gt bad _ s)
  | haltWalk q n => exact State.serve_badTarget he hm (feedCommand_of_gt bad _ s)
  | resumeWalk q n => exact State.serve_badTarget he hm (feedCommand_of_gt bad _ s)
  | endWalk q n => exact State.serve_badTarget he hm (feedCommand_of_gt bad _ s)
  | clearWalkErrors q n => exact State.serve_badTarget he hm (feedCommand_of_gt bad _ s)
  | _ => exact bad.elim

/-! ## The summary of a district (R26) -/

theorem HoldSet.code_eq (h : HoldSet) : h.code = flagsNumber [h.a, h.b, h.c] := by
  simp only [HoldSet.code, flagsNumber, bit]
  omega

theorem Stats.rollFlags_eq (st : Stats) :
    st.rollFlags = flagsNumber [st.trips.rolled, st.excuses.rolled, st.recoveries.rolled, st.soakFails.rolled,
      st.latches.rolled, st.swaps.rolled, st.swapFails.rolled] := by
  simp only [Stats.rollFlags, flagsNumber, bit]
  omega

theorem District.flags_eq (r : District) :
    r.flags = flagsNumber [decide (r.switch = .closed), decide (r.polarity = .swapped), decide (r.mode = .strict),
      r.seen, r.grace, r.applyDeferred, decide (r.preSwap ≠ none), decide (r.preSwap = some .swapped)] := by
  have present : r.preSwap.isSome = decide (r.preSwap ≠ none) := by cases r.preSwap <;> rfl
  simp only [District.flags, flagsNumber, bit, present, beq_iff_eq, decide_eq_true_eq]
  omega

theorem soakEntryByte_eq (c : Option SoakContext) :
    soakEntryByte c = match c.map SoakContext.origin with
      | some (.walk e) => byteOf e.val
      | some .individual => 0xFF
      | some .walkDefault => 0xFF
      | none => 0xFF := by
  rcases c with _ | ⟨_ | _ | _, _, _, _⟩ <;> rfl

theorem soakOriginByte_eq (c : Option SoakContext) :
    byteOf ((c.map (fun c => c.origin.code)).getD 0) = match c.map SoakContext.origin with
      | none => 0
      | some .individual => 1
      | some (.walk _) => 2
      | some .walkDefault => 3 := by
  rcases c with _ | ⟨_ | _ | _, _, _, _⟩ <;> rfl

/-- The time left of the timer that runs, cool-down or dead time (R26). -/
theorem remaining_eq (coolDown deadTime : Timer) :
    (if coolDown.isSome then timerMs coolDown else timerMs deadTime) = match coolDown with
      | some n => n
      | none => deadTime.getD 0 := by
  cases coolDown <;> rfl

/-- Settles O37: both reads answer the record, byte by byte. -/
theorem districtReadsAnswerTheRecord : Obligations.DistrictReadsAnswerTheRecord := by
  refine ⟨by decide, fun p d s r ds hr hds => ⟨fun hm => ?_, fun hm => ?_⟩⟩
  · obtain ⟨running, permits, free⟩ := hm
    subst hr hds
    show Host.Outcome.next (s.serve (.readDistrict p (byteOf d.val)) _) = _
    rw [State.serve_of_permits rfl running permits free]
    simp only [districtOf_byteOf, Option.map_some, readReply, State.summary, District.flags_eq, HoldSet.code_eq,
      soakEntryByte_eq, soakOriginByte_eq, remaining_eq]
    rfl
  · obtain ⟨running, permits, free⟩ := hm
    subst hr
    show Host.Outcome.next (s.serve (.readDistrictStats p (byteOf d.val)) _) = _
    rw [State.serve_of_permits rfl running permits free]
    simp only [districtOf_byteOf, Option.map_some, readReply, Stats.bytes, Stats.rollFlags_eq]
    rfl

end Sys2Proof.Machine
end

section
/-! # The grant rule in the rules' words, and the district timers (R20, R49, R53, R55, R111) -/

namespace Sys2Proof.Machine

/-! ## Lawful records that change state, in the rules' words -/

/-- The window of a lawful record whose switch is OPEN is clear, its sum with it (R31). -/
theorem District.Lawful.clear_of_opened {r : District} (h : r.Lawful) (ho : r.switch = .opened) :
    r.window = [0, 0, 0, 0, 0, 0, 0, 0] ∧ r.sum = 0 ∧ r.fill = 0 ∧ r.occupancy = .unknown := by
  obtain ⟨-, -, hsum, -, hopen⟩ := h.stable.window
  obtain ⟨hw, hf, ho⟩ := hopen ho
  exact ⟨hw, by rw [hsum, hw]; rfl, hf, ho⟩

/-- A lawful record that enters a state with an OPEN switch and no field of its own (R6, R31). -/
theorem District.Lawful.enter_eq {r : District} (h : r.Lawful) {st : DState}
    (hst : st = .off ∨ st = .dark ∨ st = .queued ∨ st = .latched) :
    r.enter st = { r.darkened st with
      soak := none, deferral := none, grace := false, preSwap := none, checkCount := none, coolDown := none
      deadTime := none } := by
  cases hs : r.switch with
  | closed =>
    rcases hst with rfl | rfl | rfl | rfl <;>
      simp [District.enter, District.darkened, District.clearWindow, clearedWindow, DState.energised, DState.isSwap,
        DState.settles, hs]
  | opened =>
    obtain ⟨h1, h2, h3, h4⟩ := h.clear_of_opened hs
    rcases hst with rfl | rfl | rfl | rfl <;>
      simp [District.enter, District.darkened, DState.energised, DState.isSwap, DState.settles, hs, h1, h2, h3, h4]

/-- The states without a field of their own beside the cool-down, their switch OPEN. -/
def DState.rests : DState → Bool
  | .off | .dark | .tripped | .queued | .latched => true
  | .live | .swapping | .swapCheck | .soaking => false

/-- A record with an OPEN switch, a clear window, and no field but the cool-down (R6, R31). -/
structure District.Rested (r : District) : Prop where
  switch : r.switch = .opened
  window : r.window = [0, 0, 0, 0, 0, 0, 0, 0]
  sum : r.sum = 0
  fill : r.fill = 0
  occupancy : r.occupancy = .unknown
  soak : r.soak = none
  deferral : r.deferral = none
  grace : r.grace = false
  preSwap : r.preSwap = none
  checkCount : r.checkCount = none
  settle : r.settle = none
  deadTime : r.deadTime = none

/-- A lawful record of a district at rest (R6). -/
theorem District.Lawful.rested {r : District} (h : r.Lawful) (hr : r.state.rests = true) : r.Rested := by
  have absent : ∀ {α : Type} {o : Option α}, ¬o.isSome = true → o = none := fun k => Option.not_isSome_iff_eq_none.1 k
  obtain ⟨live, swapping, swapCheck, soaking⟩ :
      r.state ≠ .live ∧ r.state ≠ .swapping ∧ r.state ≠ .swapCheck ∧ r.state ≠ .soaking := by
    refine ⟨?_, ?_, ?_, ?_⟩ <;> intro k <;> simp [k, DState.rests] at hr
  have opened : r.switch = .opened := by
    cases hs : r.switch with
    | opened => rfl
    | closed => rcases h.closed_iff.1 hs with k | k | k <;> contradiction
  obtain ⟨hw, hsum, hfill, hocc⟩ := h.clear_of_opened opened
  refine ⟨opened, hw, hsum, hfill, hocc, h.soak_none soaking, absent fun k => live (h.live_of_deferral k), ?_,
    absent fun k => ?_, absent fun k => swapCheck (h.checkCount_iff.1 k), absent fun k => ?_,
    absent fun k => swapping (h.swapping_of_deadTime k)⟩
  · exact Bool.eq_false_iff.2 fun k => live (h.live_of_grace k)
  · rcases h.preSwap_iff.1 k with k | k <;> contradiction
  · rcases h.settles_of_settle k with k | k | k <;> contradiction

/-- A lawful record that is not TRIPPED has no cool-down (R6). -/
theorem District.Lawful.coolDown_none {r : District} (h : r.Lawful) (hr : r.state ≠ .tripped) : r.coolDown = none :=
  Option.not_isSome_iff_eq_none.1 fun k => hr (h.tripped_of_coolDown k)

/-- A record at rest that enters another state of rest only gives up its cool-down. -/
theorem District.Rested.enter_eq {r : District} (h : r.Rested) {st : DState}
    (hst : st = .off ∨ st = .dark ∨ st = .queued ∨ st = .latched) :
    r.enter st = { r with state := st, coolDown := none } := by
  obtain ⟨f1, -, -, -, -, f2, f3, f4, f5, f6, f7, f8⟩ := h
  rcases hst with rfl | rfl | rfl | rfl <;>
    simp [District.enter, DState.energised, DState.isSwap, DState.settles, f1, f2, f3, f4, f5, f6, f7, f8]

/-- A record at rest that starts to soak (R55, R75). -/
theorem District.Rested.startSoak_eq {r : District} (h : r.Rested) (origin : SoakOrigin) (cost : Nat) :
    r.startSoak origin cost = r.soaksFrom origin cost := by
  obtain ⟨f1, -, -, -, -, f2, f3, f4, f5, f6, f7, f8⟩ := h
  simp [District.startSoak, District.enter, District.soaksFrom, DState.energised, DState.isSwap, DState.settles, f1,
    f3, f4, f5, f6, f7, f8]

/-- A granted record: the retry count is one higher, up to R (R55). -/
theorem District.Rested.granted_eq {r : District} (h : r.Rested) (cost limit : Nat) :
    r.granted cost limit =
      { r.soaksFrom .individual cost with retry := if r.retry < limit then r.retry + 1 else limit } := by
  have retry : min (r.retry + 1) limit = if r.retry < limit then r.retry + 1 else limit := by split <;> omega
  rw [District.granted, h.startSoak_eq, retry]

/-! ## Districts changed one after the other -/

/-- What a change writes at the district is all that matters of it. -/
theorem State.modDistrict_congr {s : State} {d : DistrictId} {g g' : District → District}
    (h : g (s.district d) = g' (s.district d)) : s.modDistrict d g = s.modDistrict d g' := by
  unfold State.modDistrict
  rw [h]

/-- A list of districts, each named once, whose records are changed one after the other. -/
theorem State.foldl_modDistrict_district (g : DistrictId → District → District) (ds : List DistrictId) (hn : ds.Nodup)
    (s : State) (e : DistrictId) :
    (ds.foldl (fun u d => u.modDistrict d (g d)) s).district e =
      if e ∈ ds then g e (s.district e) else s.district e := by
  induction ds generalizing s with
  | nil => simp
  | cons d ds ih =>
    rw [List.nodup_cons] at hn
    rw [List.foldl_cons, ih hn.2, State.district_modDistrict]
    by_cases he : e = d
    · subst he; simp [hn.1]
    · simp [he]

theorem OnlyRecords.foldl_modDistrict (g : DistrictId → District → District) (ds : List DistrictId) (s : State) :
    OnlyRecords s (ds.foldl (fun u d => u.modDistrict d (g d)) s) := by
  induction ds generalizing s with
  | nil => exact .refl s
  | cons d ds ih => exact (OnlyRecords.modDistrict s d _).trans (ih _)

theorem State.foldl_modDistrict_feed (g : DistrictId → District → District) (ds : List DistrictId) (s : State)
    (f : FeedId) : (ds.foldl (fun u d => u.modDistrict d (g d)) s).feed f = s.feed f := by
  induction ds generalizing s with
  | nil => rfl
  | cons d ds ih => rw [List.foldl_cons, ih]; rfl

/-! ## The grant rule (R55, R111) -/

theorem State.cost_eq_costOn (s : State) (f : FeedId) (d : DistrictId) : s.cost f d = s.costOn f d := by
  unfold State.cost State.costOn
  split <;> omega

/-- Costs depend on the settings alone. -/
theorem OnlyRecords.costOn {s t : State} (h : OnlyRecords s t) (f : FeedId) (d : DistrictId) :
    t.costOn f d = s.costOn f d := by simp [State.costOn, h.dset, h.fset]

theorem OnlyRecords.costsOn {s t : State} (h : OnlyRecords s t) (f : FeedId) (ds : List DistrictId) :
    t.costsOn f ds = s.costsOn f ds := by
  unfold State.costsOn
  rw [List.map_congr_left fun d _ => h.costOn f d]

@[simp] theorem State.costsOn_nil (s : State) (f : FeedId) : s.costsOn f [] = 0 := rfl

@[simp] theorem State.costsOn_cons (s : State) (f : FeedId) (d : DistrictId) (ds : List DistrictId) :
    s.costsOn f (d :: ds) = s.costOn f d + s.costsOn f ds := by simp [State.costsOn]

/-- The record of a granted district (R55). -/
def State.grantedRecord (s : State) (f : FeedId) (h : DistrictId) (r : District) : District :=
  { r.soaksFrom .individual (s.costOn f h) with
    retry := if r.retry < (s.dset h).r then r.retry + 1 else (s.dset h).r }

theorem State.withGranted_eq (s : State) (f : FeedId) (hs rest : List DistrictId) :
    s.withGranted f hs rest = (hs.foldl (fun u h => u.modDistrict h (s.grantedRecord f h)) s).modFeed f (fun x =>
      { x with queue := rest, pool := x.pool + s.costsOn f hs, slots := x.slots + hs.length }) := rfl

theorem OnlyRecords.withGranted (s : State) (f : FeedId) (hs rest : List DistrictId) :
    OnlyRecords s (s.withGranted f hs rest) :=
  (OnlyRecords.foldl_modDistrict (fun h => s.grantedRecord f h) hs s).trans (.modFeed _ f _)

theorem State.withGranted_district (s : State) (f : FeedId) {hs : List DistrictId} (hn : hs.Nodup)
    (rest : List DistrictId) (d : DistrictId) :
    (s.withGranted f hs rest).district d = if d ∈ hs then s.grantedRecord f d (s.district d) else s.district d := by
  rw [State.withGranted_eq, State.modFeed_district,
    State.foldl_modDistrict_district (fun h => s.grantedRecord f h) hs hn]

theorem State.withGranted_feed (s : State) (f : FeedId) (hs rest : List DistrictId) (g : FeedId) :
    (s.withGranted f hs rest).feed g =
      if g = f then
        { s.feed f with queue := rest, pool := (s.feed f).pool + s.costsOn f hs, slots := (s.feed f).slots + hs.length }
      else s.feed g := by
  rw [State.withGranted_eq, State.feed_modFeed,
    State.foldl_modDistrict_feed (fun h => s.grantedRecord f h), State.foldl_modDistrict_feed (fun h => s.grantedRecord f h)]

/-- Where nothing is granted, nothing changes. -/
theorem State.withGranted_nil {s : State} {f : FeedId} {rest : List DistrictId} (h : (s.feed f).queue = rest) :
    s.withGranted f [] rest = s := by
  refine OnlyRecords.eq_of_records (.withGranted s f [] rest) (fun d => ?_) (fun g => ?_)
  · rw [State.withGranted_district _ _ (by simp)]; simp
  · rw [State.withGranted_feed]
    split
    · subst g; subst h; simp
    · rfl

/-- The head of a grant, with what the grant rule does next (R111 steps 3 and 4). -/
theorem State.grantHead_withGranted {s : State} {f : FeedId} {h : DistrictId} {hs rest : List DistrictId}
    (hn : (h :: hs).Nodup) (hq : (s.district h).state = .queued) (hl : (s.district h).Lawful) (queue : List DistrictId) :
    (s.grantHead f h queue).withGranted f hs rest = s.withGranted f (h :: hs) rest := by
  have records : OnlyRecords s (s.grantHead f h queue) := (OnlyRecords.modFeed s f _).trans (.modDistrict _ h _)
  have record : ∀ d, (s.grantHead f h queue).district d =
      if d = h then s.grantedRecord f h (s.district h) else s.district d := fun d => by
    unfold State.grantHead
    rw [State.district_modDistrict, State.modFeed_district, State.modFeed_district,
      (hl.rested (by simp [hq, DState.rests])).granted_eq, State.cost_eq_costOn]
    rfl
  have same : ∀ d, (s.grantHead f h queue).grantedRecord f d = s.grantedRecord f d := fun d => by
    unfold State.grantedRecord
    rw [records.costOn, records.dset]
  rw [List.nodup_cons] at hn
  refine OnlyRecords.eq_of_records ?_ (fun d => ?_) (fun g => ?_)
  · have after := records.trans (.withGranted _ f hs rest)
    have whole := OnlyRecords.withGranted s f (h :: hs) rest
    exact ⟨after.1.trans whole.1.symm, after.2.trans whole.2.symm, after.3.trans whole.3.symm, after.4.trans whole.4.symm,
      after.5.trans whole.5.symm, after.6.trans whole.6.symm, after.7.trans whole.7.symm, after.8.trans whole.8.symm,
      after.9.trans whole.9.symm, after.10.trans whole.10.symm, after.11.trans whole.11.symm⟩
  · rw [State.withGranted_district _ _ hn.2, State.withGranted_district _ _ (List.nodup_cons.2 hn), record, same]
    by_cases hd : d = h
    · subst hd; simp [hn.1]
    · simp [hd]
  · rw [State.withGranted_feed, State.withGranted_feed, records.costsOn]
    split
    · simp [State.grantHead, State.cost_eq_costOn, Nat.add_assoc, Nat.add_comm hs.length]
    · simp [State.grantHead, State.feed_modFeed, *]

/-- A head that does not fit is not granted (R111 steps 1 and 2). -/
theorem grantLoop_of_full {s : State} {f : FeedId} (n : Nat)
    (h : ∀ d, (s.feed f).queue.head? = some d → s.canGrant f d = false) : grantLoop n f s = s := by
  cases n with
  | zero => rfl
  | succ n =>
    unfold grantLoop
    cases hq : (s.feed f).queue with
    | nil => rfl
    | cons d rest => simp [h d (by simp [hq])]

theorem grantLoop_eq_withGranted {f : FeedId} {hs rest : List DistrictId} {s : State} {n : Nat}
    (hn : hs.length ≤ n) (h : s.GrantsAre f hs rest) : grantLoop n f s = s.withGranted f hs rest := by
  induction hs generalizing n s with
  | nil =>
    obtain ⟨hq, -, -, -, hfull⟩ := h
    rw [State.withGranted_nil (by simpa using hq)]
    refine grantLoop_of_full n fun d hd => ?_
    rw [hq, List.nil_append] at hd
    have full := hfull d hd
    simp only [List.length_nil, State.costsOn_nil, Nat.add_zero] at full
    simp only [State.canGrant, State.cost_eq_costOn]
    rcases full with k | k | k | k
    · simp [k]
    · simp [k]
    · simp [Nat.not_lt.2 k]
    · simp [Nat.not_le.2 k]
  | cons d hs ih =>
    obtain ⟨hq, hnd, hheads, hroom, hfull⟩ := h
    obtain ⟨hup, hdef, hslots, hpool⟩ := hroom (by simp)
    obtain ⟨hqueued, hlawful⟩ := hheads d (by simp)
    rw [State.costsOn_cons] at hpool
    rw [List.length_cons] at hslots
    obtain ⟨n, rfl⟩ : ∃ m, n = m + 1 := ⟨n - 1, by simp at hn; omega⟩
    have can : s.canGrant f d = true := by
      simp only [State.canGrant, State.cost_eq_costOn, hup, hdef, hqueued]
      simp
      omega
    have first : grantLoop (n + 1) f s = grantLoop n f (s.grantHead f d (hs ++ rest)) := by
      simp [grantLoop, hq, can]
    have records : OnlyRecords s (s.grantHead f d (hs ++ rest)) := (OnlyRecords.modFeed s f _).trans (.modDistrict _ d _)
    have feed : (s.grantHead f d (hs ++ rest)).feed f =
        { s.feed f with queue := hs ++ rest, pool := (s.feed f).pool + s.costOn f d, slots := (s.feed f).slots + 1 } := by
      simp [State.grantHead, State.cost_eq_costOn]
    rw [first, ih (by simpa using hn) ?_, State.grantHead_withGranted hnd hqueued hlawful]
    rw [List.nodup_cons] at hnd
    refine ⟨by rw [feed], hnd.2, fun x hx => ?_, fun _ => ?_, fun x hx => ?_⟩
    · have other : (s.grantHead f d (hs ++ rest)).district x = s.district x := by
        rw [State.grantHead, State.district_modDistrict_of_ne (by rintro rfl; exact hnd.1 hx)]; rfl
      rw [other]
      exact hheads x (by simp [hx])
    · rw [feed, records.fset, records.costsOn]
      refine ⟨hup, hdef, ?_, ?_⟩ <;> dsimp only <;> omega
    · have full := hfull x hx
      rw [State.costsOn_cons, List.length_cons] at full
      rw [feed, records.fset, records.costsOn, records.costOn]
      dsimp only
      rcases full with k | k | k | k
      · exact .inl k
      · exact .inr (.inl k)
      · exact .inr (.inr (.inl (by omega)))
      · exact .inr (.inr (.inr (by omega)))

/-- A run of the grant rule grants what the rules say it grants (R111). -/
theorem State.runGrantRule_eq_withGranted {s : State} {f : FeedId} {hs rest : List DistrictId}
    (h : s.GrantsAre f hs rest) : s.runGrantRule f = s.withGranted f hs rest := by
  obtain ⟨hq, -⟩ := id h
  exact grantLoop_eq_withGranted (by rw [hq]; simp) h

/-- A district at rest enters another state of rest. -/
theorem State.modDistrict_enter_of_rested {s : State} {d : DistrictId} (h : (s.district d).Rested) {st : DState}
    (hst : st = .off ∨ st = .dark ∨ st = .queued ∨ st = .latched) :
    s.modDistrict d (fun r => r.enter st) = s.modDistrict d (fun r => { r with state := st, coolDown := none }) :=
  State.modDistrict_congr (h.enter_eq hst)

/-- A district at rest joins the tail of its feed's queue (R53, R108). -/
theorem State.enqueue_eq_queuedAt {s : State} {d : DistrictId} (f : FeedId) (h : (s.district d).Rested) :
    s.enqueue f d = s.queuedAt f d := by
  unfold State.enqueue State.queuedAt
  rw [State.modDistrict_enter_of_rested h (by simp)]

/-! ## Settle and cool-down expiries (R20, R49) -/

/-- Settles O29: both expiries are their rules' words; the join's grants are those of `State.GrantsAre`. -/
theorem settlingForgivesAndCoolingQueues : Obligations.SettlingForgivesAndCoolingQueues := by
  intro d f s running lawful hf
  have settle : exec (.settleExpiry d) s = .next (s.settleExpires d) :=
    congrArg _ (State.whenRunning_of_running running _)
  have cool : exec (.coolDownExpiry d) s = .next (s.coolDownExpires d) :=
    congrArg _ (State.whenRunning_of_running running _)
  rw [settle, cool]
  refine ⟨fun h => ?_, fun h => ?_, fun h => ?_, fun h hs rest grants => ?_⟩
  · have settles : (s.district d).state.settles = true :=
      (DState.settles_iff _).2 (lawful.settles_of_settle (by simp [h]))
    rw [State.settleExpires, if_pos ⟨settles, h⟩]
  · rw [State.settleExpires, if_neg fun k => h k.2]
  · rw [State.coolDownExpires, if_neg fun k => h k.2]
  · have tripped : (s.district d).state = .tripped := lawful.tripped_of_coolDown (by simp [h])
    rw [State.coolDownExpires, if_pos ⟨tripped, h⟩, hf, State.join,
      State.enqueue_eq_queuedAt f (lawful.rested (by simp [tripped, DState.rests])), State.runGrantRule_eq_withGranted grants]

end Sys2Proof.Machine
end

section
/-! # A sample's first steps in the rules' words, and the quiet sample (R29 to R35, R40, R41) -/

namespace Sys2Proof.Machine

/-! ## One record changed twice -/

/-- Two changes of one district's record are one change. -/
theorem State.modDistrict_modDistrict (s : State) (d : DistrictId) (g h : District → District) :
    (s.modDistrict d g).modDistrict d h = s.modDistrict d (fun r => h (g r)) := by
  refine OnlyRecords.eq_of_records ?_ (fun e => ?_) (fun _ => rfl)
  · exact ⟨rfl, rfl, rfl, rfl, rfl, rfl, rfl, rfl, rfl, rfl, rfl⟩
  · by_cases he : e = d
    · subst he; simp
    · simp [State.district_modDistrict, he]

/-- A change that writes what stood there changes nothing. -/
theorem State.modDistrict_of_eq {s : State} {d : DistrictId} {g : District → District}
    (h : g (s.district d) = s.district d) : s.modDistrict d g = s := by
  unfold State.modDistrict
  rw [h, State.setDistrict_district]

/-- An event posted before a change of a record might as well be posted after it. -/
theorem State.post_modDistrict (s : State) (ev : Event) (d : DistrictId) (g : District → District) :
    (s.post ev).modDistrict d g = (s.modDistrict d g).post ev := rfl

/-! ## Counters and figures -/

/-- A counter within its range rises as its rule says (R25). -/
theorem Counter.rise_eq_oneMore {c : Counter} (h : c.count ≤ 255) : c.rise = c.oneMore := by
  unfold Counter.rise Counter.oneMore
  by_cases hc : c.count < 255
  · rw [if_pos hc, if_neg (by omega)]
  · rw [if_neg hc, if_pos (by omega)]

theorem Accounting.add_eq_counted (a : Accounting) (x : Nat) : a.add x = a.counted x := by
  unfold Accounting.add Accounting.counted
  by_cases ho : a.overflow = true
  · rw [if_pos ho, if_pos ho]
  · rw [if_neg ho, if_neg ho]
    by_cases hroom : a.charge + x ≤ 4294967295 ∧ a.count + 1 ≤ 16777215
    · have peak : max a.peak x = if a.peak < x then x else a.peak := by split <;> omega
      rw [if_pos hroom, if_neg (by simp only [Config.chargeMax, Config.countMax]; omega), peak,
        Bool.eq_false_iff.2 ho]
    · rw [if_neg hroom, if_pos (by simp only [Config.chargeMax, Config.countMax]; omega)]

/-! ## Window, figures and occupancy (R29 to R33) -/

/-- A sample in the window of a lawful record (R30). -/
theorem District.WindowLaw.pushSample_eq {r : District} (h : r.WindowLaw) (x : Nat) :
    r.pushSample x = { r with
      window := r.window.tail ++ [x], sum := (r.window.tail ++ [x]).sum, fill := if r.fill < 8 then r.fill + 1 else 8 } := by
  obtain ⟨hlen, -, hsum, hfill, -⟩ := h
  have fill : min Config.windowLength (r.fill + 1) = if r.fill < 8 then r.fill + 1 else 8 := by
    simp only [Config.windowLength]; split <;> omega
  have sum : r.sum - r.window.headD 0 + x = (r.window.tail ++ [x]).sum := by
    cases hw : r.window with
    | nil => simp [hw] at hlen
    | cons y ys => simp [hsum, hw]
  unfold District.pushSample
  rw [fill, sum]

/-- The record between the accounting and the occupancy step of a sample. -/
def District.counted (r : District) (x : Nat) : District :=
  { r with
    window := r.window.tail ++ [x], sum := (r.window.tail ++ [x]).sum, fill := if r.fill < 8 then r.fill + 1 else 8
    acct := r.acct.counted x }

theorem District.counted_average (r : District) (x : Nat) : (r.counted x).average = r.averageWith x := rfl

/-- Until the window is full nothing is judged (R32). -/
theorem District.occupancyWith_of_partial {r : District} (h : r.fill < 7) (ds : DistrictSet) (x : Nat) :
    r.occupancyWith ds x = r.occupancy := if_pos h

theorem District.occupancyWith_of_full {r : District} (h : ¬r.fill < 7) (ds : DistrictSet) (x : Nat) :
    r.occupancyWith ds x = occupancyOf (r.averageWith x) ds.occLevel := if_neg h

/-- A judgement that stands leaves the record as the accounting step left it. -/
theorem District.sampled_of_same {r : District} {ds : DistrictSet} {x : Nat}
    (h : r.occupancyWith ds x = r.occupancy) : r.sampled ds x = r.counted x := by
  unfold District.sampled District.counted
  rw [h]
  simp

/-- A judgement that changes to occupied is the one that sets the seen flag (R33). -/
theorem District.seen_of_changed {o before : Occupancy} (h : o ≠ before) :
    (o == .occupied) = (decide (o = .occupied) && decide (before ≠ .occupied)) := by
  cases o with
  | occupied => simpa using fun k => h k.symm
  | unknown | vacant => rfl

/-- The occupancy step as its rules say it (R32, R33). -/
theorem State.judgeOccupancy_counted {s : State} {d : DistrictId} {x : Nat} (hf : (s.district d).fill ≤ 8) :
    (s.modDistrict d (fun r => r.counted x)).judgeOccupancy d = s.recorded d x := by
  have full : ((s.district d).counted x).fill = 8 ↔ ¬(s.district d).fill < 7 := by
    simp only [District.counted]; split <;> omega
  unfold State.judgeOccupancy
  dsimp only
  rw [State.district_modDistrict_same, State.modDistrict_dset, District.counted_average]
  by_cases part : (s.district d).fill < 7
  · have same := District.occupancyWith_of_partial part (s.dset d) x
    rw [if_neg fun k => full.1 k.1 part, State.recorded, if_neg fun k => k.2 same, District.sampled_of_same same]
    rfl
  · have judged := District.occupancyWith_of_full part (s.dset d) x
    by_cases same : occupancyOf ((s.district d).averageWith x) (s.dset d).occLevel = (s.district d).occupancy
    · rw [if_neg fun k => k.2 same, State.recorded, judged, if_neg fun k => k.2 same,
        District.sampled_of_same (judged.trans same)]
      rfl
    · have whole : (s.modDistrict d (fun r => r.counted x)).modDistrict d (fun r => { r with
            occupancy := occupancyOf ((s.district d).averageWith x) (s.dset d).occLevel
            seen := r.seen || (occupancyOf ((s.district d).averageWith x) (s.dset d).occLevel == .occupied) }) =
          s.setDistrict d ((s.district d).sampled (s.dset d) x) := by
        rw [State.modDistrict_modDistrict]
        unfold State.modDistrict
        congr 1
        unfold District.sampled
        rw [judged]
        rw [← District.seen_of_changed same]
        rfl
      rw [if_pos ⟨full.2 part, same⟩, whole, State.recorded, judged]
      simp [same]
      rfl

/-- The first three steps of a sample at a lawful record (R29). -/
theorem State.judgeOccupancy_eq_recorded {s : State} {d : DistrictId} (hl : (s.district d).Lawful) (x : Nat) :
    (s.modDistrict d (fun r => { r.pushSample x with acct := r.acct.add x })).judgeOccupancy d = s.recorded d x := by
  obtain ⟨-, -, -, hfill, -⟩ := id hl.stable.window
  have counted : s.modDistrict d (fun r => { r.pushSample x with acct := r.acct.add x }) =
      s.modDistrict d (fun r => r.counted x) := by
    apply State.modDistrict_congr
    rw [hl.stable.window.pushSample_eq, Accounting.add_eq_counted]
    rfl
  rw [counted, State.judgeOccupancy_counted hfill]

/-- What a sample at a closed switch does before its evaluation (R29). -/
theorem State.takeSample_eq {s : State} {d : DistrictId} {x : Nat} (hk : (s.dset d).kind ≠ .unused)
    (hl : (s.district d).Lawful) (hc : (s.district d).switch = .closed) :
    s.takeSample d x = (s.recorded d x).evaluate d x := by
  rw [State.takeSample, if_neg (by simp [hk, hc]), ← State.judgeOccupancy_eq_recorded hl]

/-- Every district stands by the first three steps of a sample. -/
theorem StandsAt.recorded (e : DistrictId) {s : State} {d : DistrictId} {x : Nat} (hx : x ≤ 1023)
    (hl : (s.district d).Lawful) (hc : (s.district d).switch = .closed) : StandsAt e s (s.recorded d x) := by
  rw [← State.judgeOccupancy_eq_recorded hl]
  exact (StandsAt.modDistrict fun _ => .sampleTaken hc hx).trans
    (.judgeOccupancy (by simpa [District.pushSample] using hc))

/-- The record that a sample is evaluated with. -/
@[simp] theorem State.recorded_district (s : State) (d : DistrictId) (x : Nat) (e : DistrictId) :
    (s.recorded d x).district e = if e = d then (s.district d).sampled (s.dset d) x else s.district e := by
  unfold State.recorded
  split <;> simp [State.postDistrict, State.district_setDistrict]

@[simp] theorem State.recorded_activeImage (s : State) (d : DistrictId) (x : Nat) :
    (s.recorded d x).activeImage = s.activeImage := by
  unfold State.recorded
  split <;> rfl

@[simp] theorem State.recorded_dset (s : State) (d : DistrictId) (x : Nat) (e : DistrictId) :
    (s.recorded d x).dset e = s.dset e := by simp [State.dset]

theorem State.recorded_hardMet (s : State) (d : DistrictId) (x : Nat) :
    (s.recorded d x).hardMet d x = decide (s.MeetsHard d x) := by simp [State.hardMet]

theorem State.recorded_average (s : State) (d : DistrictId) (x : Nat) :
    ((s.recorded d x).district d).average = (s.district d).averageWith x := by
  rw [State.recorded_district, if_pos rfl]; rfl

theorem State.recorded_slowMet (s : State) (d : DistrictId) (x : Nat) :
    (s.recorded d x).slowMet d = decide (s.MeetsSlow d x) := by
  rw [State.slowMet, State.recorded_average, State.recorded_dset]

/-- A sample that reaches a closed switch (R27, R29). -/
theorem exec_sampleArrival_eq {s : State} {d : DistrictId} {x : Nat} (h : s.SampleReaches d x)
    (hc : (s.district d).switch = .closed) :
    exec (.sampleArrival d x) s = .next ((s.recorded d x).evaluate d x) := by
  obtain ⟨hx, running, hk, hl⟩ := h
  have count : senseCount (x : Int) = x := by simp [senseCount, Config.fullScale, hx]
  have taken : exec (.sampleArrival d x) s = .next (s.takeSample d (senseCount x)) :=
    congrArg _ (State.whenRunning_of_running running _)
  rw [taken, count, State.takeSample_eq hk hl hc]

/-! ## The quiet sample -/

/-- A LIVE district in grace, or one without a deferral that meets neither condition, is left at that by the evaluation
(R34, R35, R90). -/
theorem State.evaluate_of_quiet {s : State} {d : DistrictId} {x : Nat} (live : (s.district d).state = .live)
    (h : (s.dset d).kind = .plain ∧ (s.district d).grace = true ∨
      (s.district d).deferral = none ∧ s.hardMet d x = false ∧ s.slowMet d = false) : s.evaluate d x = s := by
  unfold State.evaluate
  rw [live]
  dsimp only
  rcases h with ⟨hk, hg⟩ | ⟨hdef, hhard, hslow⟩
  · rw [if_neg (by simp [hk]), State.evaluatePartner, if_pos hg]
  · have plain : s.evaluatePlain d x = s := by
      unfold State.evaluatePlain State.evaluateLive
      simp [hhard, hslow]
    split
    · simp [State.evaluateReversing, hhard, hslow]
    · unfold State.evaluatePartner
      rw [hdef, plain]
      simp

/-- Settles O20: a quiet sample ends with the first three steps. -/
theorem aQuietSampleOnlyUpdatesTheRecord : Obligations.AQuietSampleOnlyUpdatesTheRecord := by
  refine ⟨fun s d g => ⟨fun e => s.district_modDistrict d e g, rfl, rfl, rfl⟩, fun d x s reaches live quiet => ?_⟩
  obtain ⟨-, -, -, hl⟩ := id reaches
  rw [exec_sampleArrival_eq reaches (hl.closed_iff.2 (.inl live)), State.evaluate_of_quiet]
  · simp [District.sampled, live]
  · refine quiet.imp (fun k => ?_) (fun k => ?_)
    · simpa [District.sampled] using k
    · obtain ⟨hdef, hhard, hslow⟩ := k
      rw [State.recorded_hardMet, State.recorded_slowMet]
      exact ⟨by simpa [District.sampled] using hdef, decide_eq_false hhard, decide_eq_false hslow⟩

end Sys2Proof.Machine
end

section
/-! # Copies, returns and the end of a soak in the rules' words (R22, R113, R115, R149 to R153) -/

namespace Sys2Proof.Machine

/-! ## Districts that are darkened or switched off -/

theorem District.Lawful.recordSoak {r : District} (h : r.Lawful) (o : SoakOutcome) : (r.recordSoak o).Lawful :=
  (District.Evolves.recordSoak default r o).lawful h

/-- A lawful district that goes DARK, its soak recorded as ABORTED (R101). -/
theorem District.Lawful.faultDark_eq {r : District} (h : r.Lawful) :
    (r.recordSoak .aborted).enter .dark = r.faultDark := by
  rw [(District.Lawful.recordSoak h .aborted).enter_eq (by simp)]
  cases hs : r.soak <;> simp [District.recordSoak, District.faultDark, District.darkened, hs]

/-- A lawful district that goes OFF (R11). -/
theorem District.Lawful.switchedOff_eq {r : District} (h : r.Lawful) :
    (r.recordSoak .aborted).enter .off = r.switchedOff := by
  rw [(District.Lawful.recordSoak h .aborted).enter_eq (by simp)]
  cases hs : r.soak <;>
    simp [District.recordSoak, District.switchedOff, District.faultDark, District.darkened, hs]

theorem District.recordSoak_of_none {r : District} (h : r.soak = none) (o : SoakOutcome) : r.recordSoak o = r := by
  rw [District.recordSoak, h]

/-- A district that was not SOAKING goes DARK or OFF (R152). -/
theorem District.Lawful.enter_dark_eq {r : District} (h : r.Lawful) (hs : r.state ≠ .soaking) :
    r.enter .dark = r.faultDark := by
  rw [← h.faultDark_eq, District.recordSoak_of_none (h.soak_none hs)]

theorem District.Lawful.enter_off_eq {r : District} (h : r.Lawful) (hs : r.state ≠ .soaking) :
    r.enter .off = r.switchedOff := by
  rw [← h.switchedOff_eq, District.recordSoak_of_none (h.soak_none hs)]

theorem State.modDistrict_enter_dark {s : State} {d : DistrictId} (h : (s.district d).Lawful)
    (hs : (s.district d).state ≠ .soaking) :
    s.modDistrict d (fun r => r.enter .dark) = s.modDistrict d District.faultDark :=
  State.modDistrict_congr (h.enter_dark_eq hs)

theorem State.modDistrict_enter_off {s : State} {d : DistrictId} (h : (s.district d).Lawful)
    (hs : (s.district d).state ≠ .soaking) :
    s.modDistrict d (fun r => r.enter .off) = s.modDistrict d District.switchedOff :=
  State.modDistrict_congr (h.enter_off_eq hs)

/-- A record at rest without a cool-down that goes OFF only changes its state. -/
theorem District.Rested.enter_off_of_idle {r : District} (h : r.Rested) (hc : r.coolDown = none) :
    r.enter .off = { r with state := .off } := by
  rw [h.enter_eq (by simp), ← hc]

theorem State.modDistrict_enter_off_of_idle {s : State} {d : DistrictId} (h : (s.district d).Rested)
    (hc : (s.district d).coolDown = none) :
    s.modDistrict d (fun r => r.enter .off) = s.modDistrict d (fun r => { r with state := .off }) :=
  State.modDistrict_congr (h.enter_off_of_idle hc)

/-- A darkened record is at rest, without a cool-down. -/
theorem District.faultDark_rested (r : District) : r.faultDark.Rested :=
  ⟨rfl, rfl, rfl, rfl, rfl, rfl, rfl, rfl, rfl, rfl, rfl, rfl⟩

/-! ## The return to service (R10, R15, R112, R152) -/

theorem State.queuedAt_of_dark {s : State} {d : DistrictId} (f : FeedId) :
    (s.modDistrict d (fun r => { r with state := .dark, coolDown := none })).queuedAt f d = s.queuedAt f d := by
  unfold State.queuedAt
  rw [State.modDistrict_modDistrict]

/-- A district at rest that returns to service is DARK, or joins its feed's queue where the feed is UP. -/
theorem State.returnToService_returns {s : State} {d : DistrictId} (h : (s.district d).Rested) :
    (s.modDistrict d (fun r => { r with state := .dark, coolDown := none })).Returns (s.feedOfDistrict d) d
      (s.returnToService d) := by
  unfold State.returnToService
  refine ⟨fun hf => ?_, fun hf hs rest grants => ?_⟩
  · rw [if_neg (by simpa using hf), State.modDistrict_enter_of_rested h (by simp)]
  · rw [State.queuedAt_of_dark] at grants ⊢
    rw [if_pos (by simpa using hf), State.join, State.enqueue_eq_queuedAt _ h,
      State.runGrantRule_eq_withGranted grants]

/-- A DARK district at rest that returns to service. -/
theorem State.returnToService_of_dark {s : State} {d : DistrictId} (h : (s.district d).Rested)
    (hd : (s.district d).state = .dark) (hc : (s.district d).coolDown = none) :
    s.Returns (s.feedOfDistrict d) d (s.returnToService d) := by
  have same : s.modDistrict d (fun r => { r with state := .dark, coolDown := none }) = s :=
    State.modDistrict_of_eq (by rw [← hd, ← hc])
  simpa [same] using State.returnToService_returns h

/-! ## Corrections (R149) -/

/-- The sets that a correction reads, no district being named, are the active ones. -/
theorem State.correctionView_zero (s : State) : s.correctionView 0 = s.dset := by
  funext e
  simp [State.correctionView, State.dset]

theorem DistrictSet.claims_iff (ds : DistrictSet) (p : DistrictId) :
    ds.claims p = true ↔ ds.kind = .reversing ∧ ds.partner = some p := by simp [DistrictSet.claims]

theorem State.partnerFails_iff (s : State) (named : Half) (d : DistrictId) (ds : DistrictSet) :
    s.partnerFails named d ds = true ↔ ds.PartnerFalls (s.correctionView named) d := by
  unfold State.partnerFails DistrictSet.PartnerFalls
  cases ds.partner with
  | none => simp
  | some p =>
    simp [DistrictSet.claims_iff, mem_allDistricts, or_assoc]

/-- The corrected set in the words of R149. -/
theorem State.correction_set (s : State) (named : Half) (d : DistrictId) :
    (s.correction named d).set = (s.pendingImage.district d).corrected (s.correctionView named) d := by
  simp only [State.correction, DistrictSet.corrected, State.partnerFails_iff]
  rfl

/-- A correction is made exactly where the set changes. -/
theorem State.correction_flags (s : State) (named : Half) (d : DistrictId) :
    (s.correction named d).tRaised = decide ((s.correction named d).set.t ≠ (s.pendingImage.district d).t) ∧
      (s.correction named d).lRaised = decide ((s.correction named d).set.l ≠ (s.pendingImage.district d).l) ∧
      (s.correction named d).partnerCleared =
        decide ((s.correction named d).set.partner ≠ (s.pendingImage.district d).partner) := by
  unfold State.correction
  dsimp only
  refine ⟨?_, ?_, ?_⟩
  · rw [decide_eq_decide]; split <;> omega
  · rw [decide_eq_decide]; split <;> split <;> omega
  · by_cases hp : s.partnerFails named d (s.pendingImage.district d) = true
    · obtain ⟨-, p, hsome, -⟩ := (s.partnerFails_iff named d _).1 hp
      simp [hp, hsome]
    · simp [hp]

theorem Image.withDistrict_self (i : Image) (d : DistrictId) : i.withDistrict d (i.district d) = i := by
  unfold Image.withDistrict Image.district
  simp

/-- The event of a correction that changes a set (R149). -/
theorem State.correction_code (s : State) (named : Half) (o : Origin) (d : DistrictId) :
    ({ kind := .settingsCorrected, subject := .district d, origin := o, detail := byteOf (s.correction named d).code
       value := halfOf (s.correction named d).set.t } : Event) =
      correctedEvent d o (s.pendingImage.district d) (s.correction named d).set := by
  obtain ⟨ht, hl, hp⟩ := s.correction_flags named d
  have code : (s.correction named d).code = flagsNumber [(s.correction named d).tRaised,
      (s.correction named d).lRaised, (s.correction named d).partnerCleared] := by
    simp only [Correction.code, flagsNumber, bit]
    omega
  rw [code, ht, hl, hp]
  rfl

/-- Nothing is corrected exactly where the corrected set is the set. -/
theorem State.correction_any (s : State) (named : Half) (d : DistrictId) :
    (s.correction named d).any = decide ((s.correction named d).set ≠ s.pendingImage.district d) := by
  obtain ⟨ht, hl, hp⟩ := s.correction_flags named d
  have set : (s.correction named d).set = { s.pendingImage.district d with
      t := (s.correction named d).set.t, l := (s.correction named d).set.l
      partner := (s.correction named d).set.partner } := rfl
  have same : (s.correction named d).set = s.pendingImage.district d ↔
      (s.correction named d).set.t = (s.pendingImage.district d).t ∧
        (s.correction named d).set.l = (s.pendingImage.district d).l ∧
        (s.correction named d).set.partner = (s.pendingImage.district d).partner := by
    refine ⟨fun k => by rw [k]; simp, fun ⟨k1, k2, k3⟩ => ?_⟩
    rw [set, k1, k2, k3]
  rw [Correction.any, ht, hl, hp, Bool.eq_iff_iff]
  simp only [Bool.or_eq_true, decide_eq_true_eq, ne_eq, same]
  tauto

/-- The correction of a set, with its event where it changes (R149). -/
theorem State.correct_eq (s : State) (named : Half) (o : Origin) (d : DistrictId) :
    s.correct named o d =
      if (s.pendingImage.district d).corrected (s.correctionView named) d = s.pendingImage.district d then s
      else
        { s with
          pendingImage := s.pendingImage.withDistrict d
            ((s.pendingImage.district d).corrected (s.correctionView named) d) }.post
          (correctedEvent d o (s.pendingImage.district d)
            ((s.pendingImage.district d).corrected (s.correctionView named) d)) := by
  rw [← State.correction_set, ← State.correction_code]
  unfold State.correct
  dsimp only
  rw [State.correction_any]
  split
  case isTrue h => rw [if_neg (by simpa using h)]
  case isFalse h =>
    have h' : (s.correction named d).set = s.pendingImage.district d := by simpa using h
    rw [if_pos h', h', Image.withDistrict_self]

theorem State.correct_zero (s : State) (o : Origin) (d : DistrictId) : s.correct 0 o d = s.setCorrected o d := by
  rw [State.correct_eq, State.correctionView_zero]
  rfl

/-! ## The copy of a district's settings (R150 to R152) -/

/-- A lawful district stays lawful when its polarity is brought to NORMAL. -/
theorem District.Lawful.straightened {s : State} {d : DistrictId} (h : (s.district d).Lawful) :
    ((s.straightened d).district d).Lawful := by
  rw [State.straightened_district]
  exact h

theorem State.straightened_state (s : State) (d : DistrictId) :
    ((s.straightened d).district d).state = (s.district d).state := by rw [State.straightened_district]

/-- The polarity after a change of feed or kind, written outright (R152 step 1). -/
theorem State.straightened_eq (s : State) (d : DistrictId) :
    s.straightened d = s.modDistrict d (fun r =>
      { r with polarity := if (s.dset d).kind = .reversing then r.polarity else .normal }) :=
  State.modDistrict_congr (by split <;> rfl)

/-- A district that is not QUEUED only changes state when it leaves for another. -/
theorem State.leaveFor_of_not_queued {s : State} {d : DistrictId} (hq : (s.district d).state ≠ .queued) (f : FeedId)
    (st : DState) : s.leaveFor f d st = s.modDistrict d (fun r => r.enter st) := by
  unfold State.leaveFor
  dsimp only
  rw [if_neg hq]

/-- A QUEUED district leaves its queue, and the grant rule runs there (R152 step 2). -/
theorem State.leaveFor_of_queued {s : State} {d : DistrictId} (hq : (s.district d).state = .queued) (f : FeedId)
    (st : DState) :
    s.leaveFor f d st = ((s.modDistrict d (fun r => r.enter st)).modFeed f (fun x =>
      { x with queue := x.queue.filter (fun e => e ≠ d) })).runGrantRule f := by
  have filters : (fun e => e != d) = (fun e => decide (e ≠ d)) := funext fun e => by simp [bne, beq_eq_decide]
  unfold State.leaveFor State.leaveQueue
  dsimp only
  rw [if_pos hq, filters]

/-- A QUEUED district starts afresh: it leaves its queue OFF, or DARK to return to service (R152). -/
theorem State.freshStart_of_queued {v w : State} {d : DistrictId} {old : FeedId} (hl : (v.district d).Lawful)
    (hq : (v.district d).state = .queued)
    (hw : w = (v.modDistrict d (fun r => if (v.dset d).kind = .unused then r.switchedOff else r.faultDark)).modFeed old
      (fun x => { x with queue := x.queue.filter (fun e => e ≠ d) }))
    {hs rest : List DistrictId} (grants : w.GrantsAre old hs rest) :
    ((v.dset d).kind = .unused → v.leaveFor old d .off = w.withGranted old hs rest) ∧
      ((v.dset d).kind ≠ .unused →
        (w.withGranted old hs rest).Returns (v.feedOfDistrict d) d ((v.leaveFor old d .dark).returnToService d)) := by
  have notSoaking : (v.district d).state ≠ .soaking := by simp [hq]
  rw [State.leaveFor_of_queued hq, State.leaveFor_of_queued hq, State.modDistrict_enter_off hl notSoaking,
    State.modDistrict_enter_dark hl notSoaking, ← State.runGrantRule_eq_withGranted grants]
  refine ⟨fun hk => ?_, fun hk => ?_⟩
  · rw [hw]
    simp only [hk, if_true]
  · simp only [hk, if_false] at hw
    rw [← hw]
    have dark : w.district d = (v.district d).faultDark := by rw [hw]; simp
    have by' : (w.runGrantRule old).district d = (v.district d).faultDark := by
      rw [(w.runGrantRule_grants old).bystander (by rw [dark]; simp [District.faultDark, District.darkened]), dark]
    have feed : (w.runGrantRule old).feedOfDistrict d = v.feedOfDistrict d := by
      rw [State.feedOfDistrict, (w.runGrantRule_grants old).records.dset, hw]; rfl
    have returns := State.returnToService_of_dark (s := w.runGrantRule old) (d := d)
      (by rw [by']; exact District.faultDark_rested _) (by rw [by']; rfl) (by rw [by']; rfl)
    rwa [feed] at returns

/-- A district in service but not QUEUED starts afresh (R152). -/
theorem State.freshStart_of_serving {v : State} {d : DistrictId} {old : FeedId} (hl : (v.district d).Lawful)
    (hq : (v.district d).state ≠ .queued) (hs : (v.district d).state ≠ .soaking) :
    v.leaveFor old d .off = v.modDistrict d District.switchedOff ∧
      (v.modDistrict d District.faultDark).Returns (v.feedOfDistrict d) d
        ((v.leaveFor old d .dark).returnToService d) := by
  rw [State.leaveFor_of_not_queued hq, State.leaveFor_of_not_queued hq, State.modDistrict_enter_off hl hs,
    State.modDistrict_enter_dark hl hs]
  have record : (v.modDistrict d District.faultDark).district d = (v.district d).faultDark := by simp
  have returns := State.returnToService_of_dark (s := v.modDistrict d District.faultDark) (d := d)
    (by rw [record]; exact District.faultDark_rested _) (by rw [record]; rfl) (by rw [record]; rfl)
  exact ⟨rfl, returns⟩

/-- A change of feed or kind in the words of R152. -/
theorem State.changeFeedOrKind_copies {u : State} {d : DistrictId} (old : FeedId) (hl : (u.district d).Lawful)
    {v : State} (hv : v = u.modDistrict d (fun r =>
      { r with polarity := if (u.dset d).kind = .reversing then r.polarity else .normal })) :
    ((u.district d).state = .off → u.changeFeedOrKind old d = v) ∧
    ((u.district d).state = .latched → u.changeFeedOrKind old d =
      if (u.dset d).kind = .unused then v.modDistrict d (fun r => { r with state := .off }) else v) ∧
    ((u.district d).state = .dark ∨ (u.district d).state = .live ∨ (u.district d).state = .tripped →
      ((u.dset d).kind = .unused → u.changeFeedOrKind old d = v.modDistrict d District.switchedOff) ∧
      ((u.dset d).kind ≠ .unused →
        (v.modDistrict d District.faultDark).Returns (u.feedOfDistrict d) d (u.changeFeedOrKind old d))) ∧
    ((u.district d).state = .queued →
      ∀ w, w = (v.modDistrict d (fun r =>
          if (u.dset d).kind = .unused then r.switchedOff else r.faultDark)).modFeed old (fun x =>
          { x with queue := x.queue.filter (fun e => e ≠ d) }) →
        ∀ hs rest, w.GrantsAre old hs rest →
          ((u.dset d).kind = .unused → u.changeFeedOrKind old d = w.withGranted old hs rest) ∧
          ((u.dset d).kind ≠ .unused →
            (w.withGranted old hs rest).Returns (u.feedOfDistrict d) d (u.changeFeedOrKind old d))) := by
  rw [← State.straightened_eq] at hv
  have lawful : (v.district d).Lawful := hv ▸ hl.straightened
  have state : (v.district d).state = (u.district d).state := by rw [hv, State.straightened_state]
  have feed : v.feedOfDistrict d = u.feedOfDistrict d := by rw [hv]; rfl
  have kind : (v.dset d).kind = (u.dset d).kind := by rw [hv]; rfl
  refine ⟨fun h => ?_, fun h => ?_, fun h => ?_, fun h w hw hs rest grants => ?_⟩
  · rw [State.changeFeedOrKind_of_off old h, hv]
  · have rested := lawful.rested (by rw [state, h]; rfl)
    have cool := lawful.coolDown_none (by rw [state, h]; simp)
    rw [State.changeFeedOrKind_of_latched old h, ← hv, State.modDistrict_enter_off_of_idle rested cool]
  · have serving := State.freshStart_of_serving (old := old) lawful
      (by rw [state]; rcases h with k | k | k <;> simp [k]) (by rw [state]; rcases h with k | k | k <;> simp [k])
    rw [State.changeFeedOrKind_of_service old (h.imp_right fun k => k.imp_right .inl), ← hv]
    refine ⟨fun hk => by rw [if_pos hk, serving.1], fun hk => ?_⟩
    rw [if_neg hk, ← feed]
    exact serving.2
  · have fresh := State.freshStart_of_queued lawful (state.trans h) (by rw [kind]; exact hw) grants
    rw [State.changeFeedOrKind_of_service old (.inr (.inr (.inr h))), ← hv]
    rw [kind, feed] at fresh
    exact ⟨fun hk => by rw [if_pos hk, fresh.1 hk], fun hk => by rw [if_neg hk]; exact fresh.2 hk⟩

/-- A district's copy is the one the rules describe (R150 to R152). -/
theorem State.copyDistrict_copies {s : State} {d : DistrictId} (h : (s.district d).Lawful) :
    s.Copies d (s.copyDistrict d) := by
  intro u hu
  unfold State.copyDistrict
  dsimp only
  rw [State.installDistrict_eq_setCopied, ← hu]
  have state : (u.district d).state = (s.district d).state := by rw [hu, State.setCopied_state]
  have lawful : (u.district d).Lawful := hu ▸ h.setCopied
  refine ⟨fun same => ?_, fun changed v hv => ?_⟩
  · have same' : (u.dset d).feed = (s.dset d).feed ∧ (u.dset d).kind = (s.dset d).kind := same
    rw [if_pos same', state]
    refine ⟨fun hq => if_neg hq, fun hq hs rest grants => ?_⟩
    rw [if_pos hq]
    exact State.runGrantRule_eq_withGranted grants
  · have changed' : ¬((u.dset d).feed = (s.dset d).feed ∧ (u.dset d).kind = (s.dset d).kind) := not_and_or.2 changed
    rw [if_neg changed', ← state]
    exact State.changeFeedOrKind_copies (s.feedOfDistrict d) lawful hv

theorem districtMask_singleton (d : DistrictId) : districtMask [d] = 1 <<< d.val := by revert d; decide

/-- The copy that waits at a district is made as the rules say (R150). -/
theorem State.deferredCopy_settles {s : State} {d : DistrictId} (h : (s.district d).Lawful) :
    s.DistrictSettles d (s.deferredCopy d) := by
  refine ⟨State.deferredCopy_of_clear, fun waits hs hw hc => ?_⟩
  have free : (s.district d).state.defersApply = false := by
    cases hst : (s.district d).state <;> simp_all [DState.defersApply]
  unfold State.deferredCopy
  rw [if_pos (by simp [waits, free])]
  dsimp only
  rw [State.correct_zero, districtMask_singleton]
  refine State.copyDistrict_copies ?_
  have same : (s.setCorrected .device d).district d = s.district d := by
    rw [← State.correct_zero, State.correct_district]
  simp only [State.post_district, State.district_modDistrict_same, same]
  exact h

/-! ## What the end of a soak leaves to do at its feed (R113, R115) -/

theorem State.deferredFeedCopy_eq (s : State) (f : FeedId) :
    s.deferredFeedCopy f = (s.feedCopied f).runGrantRule f := by
  have code : byteOf (32 + feedMask [f]) = 32 + 1 <<< f.val := by revert f; decide
  unfold State.deferredFeedCopy
  rw [code]
  rfl

/-- Where a copy of the feed's settings waits, nothing is granted (R111 step 1). -/
theorem State.runGrantRule_of_waiting {s : State} {f : FeedId} (h : (s.feed f).applyDeferred = true) :
    s.runGrantRule f = s :=
  grantLoop_of_full _ fun d _ => by simp [State.canGrant, h]

/-- The feed settles after a soak's end (R113, R115). -/
theorem State.feedSettles (s : State) (f : FeedId) : s.FeedSettles f ((s.runGrantRule f).copyWaitingFeed f) := by
  unfold State.copyWaitingFeed
  refine ⟨fun clear hs rest grants => ?_, fun waits => ?_, fun waits => ?_⟩
  · have flag : ((s.runGrantRule f).feed f).applyDeferred = false := by
      rw [(s.runGrantRule_grants f).thisFeed]; exact clear
    rw [if_neg (by simp [flag]), State.runGrantRule_eq_withGranted grants]
  · rintro ⟨d, hd⟩
    rw [State.runGrantRule_of_waiting waits, if_neg]
    rw [Bool.and_eq_true, List.isEmpty_iff]
    exact fun k => List.not_mem_nil (k.2 ▸ (s.mem_inState f .soaking d).2 hd)
  · intro none hs rest grants
    have empty : s.inState f .soaking = [] :=
      List.eq_nil_iff_forall_not_mem.2 fun d hd => none d ((s.mem_inState f .soaking d).1 hd).1
        ((s.mem_inState f .soaking d).1 hd).2
    rw [State.runGrantRule_of_waiting waits, if_pos (by simp [waits, empty]), State.deferredFeedCopy_eq,
      State.runGrantRule_eq_withGranted grants]

/-- The notice of an INDIVIDUAL soak returns cost and slot, and the feed settles (R113). -/
theorem State.soakEndNotice_of_individual {c : SoakContext} (h : c.origin = .individual) (s : State) (f : FeedId)
    (d : DistrictId) (o : NoticeOutcome) :
    s.soakEndNotice f d c o = ((s.costReturned f c).runGrantRule f).copyWaitingFeed f := by
  unfold State.soakEndNotice
  dsimp only
  rw [if_pos h]
  rfl

/-! ## A failed soak (R22, R60, R63, R66, R67) -/

/-- The record of a SOAKING district whose soak has failed, before the LATCHED decision (R66, R67). -/
def District.soakLost (r : District) (why : SoakFailure) (last : LastSoak) : District :=
  { r with
    lastCause := why.cause, stats := { r.stats with soakFails := r.stats.soakFails.rise }, lastSoak := some last }

/-- A lawful SOAKING record that goes to TRIPPED or LATCHED (R6, R31). -/
theorem District.Lawful.enter_of_soaking {r : District} (h : r.Lawful) (hs : r.state = .soaking) {st : DState}
    (hst : st = .tripped ∨ st = .latched) : r.enter st = { r.darkened st with soak := none } := by
  have absent : ∀ {α : Type} {o : Option α}, ¬o.isSome = true → o = none := fun k => Option.not_isSome_iff_eq_none.1 k
  have closed : r.switch = .closed := h.closed_iff.2 (.inr (.inr hs))
  have h1 : r.deferral = none := absent fun k => by simpa [hs] using h.live_of_deferral k
  have h2 : r.grace = false := Bool.eq_false_iff.2 fun k => by simpa [hs] using h.live_of_grace k
  have h3 : r.preSwap = none := absent fun k => by simpa [hs] using h.preSwap_iff.1 k
  have h4 : r.checkCount = none := absent fun k => by simpa [hs] using h.checkCount_iff.1 k
  have h5 : r.coolDown = none := absent fun k => by simpa [hs] using h.tripped_of_coolDown k
  have h6 : r.deadTime = none := absent fun k => by simpa [hs] using h.swapping_of_deadTime k
  rcases hst with rfl | rfl <;>
    simp [District.enter, District.darkened, District.clearWindow, clearedWindow, DState.energised, DState.isSwap,
      DState.settles, closed, h1, h2, h3, h4, h5, h6]

/-- The LATCHED decision on a lawful SOAKING record, in the rules' words (R22, R23, R48). -/
theorem State.tripOrLatch_of_soaking {s : State} {d : DistrictId} (hl : (s.district d).Lawful)
    (hs : (s.district d).state = .soaking) (cause : Cause) :
    s.tripOrLatch d cause = (s.modDistrict d (fun r => { r with soak := none })).tripsOrLatches d cause := by
  obtain ⟨-, -, -, -, hlatches, -, -⟩ := hl.stable.stats
  unfold State.tripOrLatch State.tripsOrLatches
  rw [State.modDistrict_modDistrict, State.modDistrict_modDistrict, State.district_modDistrict_same,
    State.modDistrict_dset]
  dsimp only
  split
  case isTrue hr =>
    rw [if_neg (by omega), State.latch]
    congr 1
    refine State.modDistrict_congr ?_
    rw [hl.enter_of_soaking hs (.inr rfl), Counter.rise_eq_oneMore hlatches]
    rfl
  case isFalse hr =>
    rw [if_pos (by omega)]
    refine State.modDistrict_congr ?_
    rw [District.toTripped, hl.enter_of_soaking hs (.inl rfl)]
    rfl

/-- A soak that fails ends at its district as the rules say, before its notice (R22, R66, R67). -/
theorem State.soakFailedAt_eq {s : State} {d : DistrictId} (hl : (s.district d).Lawful)
    (hs : (s.district d).state = .soaking) (c : SoakContext) (why : SoakFailure) (e : Nat) :
    (((s.modDistrict d (fun r => r.soakLost why { e := e, used := c.n + 1, outcome := why.outcome })).postDistrict
      .soakFailed d (why.cause.code + 16 * c.origin.code) e).tripOrLatch d why.cause) = s.soakFailedAt d c why e := by
  obtain ⟨-, -, -, hfails, -⟩ := id hl.stable.stats
  rw [State.tripOrLatch_of_soaking _ _, State.soakFailedAt]
  · congr 1
    unfold State.postDistrict
    rw [State.post_modDistrict, State.modDistrict_modDistrict]
    congr 1
    refine State.modDistrict_congr ?_
    unfold District.soakLost
    rw [Counter.rise_eq_oneMore hfails]
  · simp only [State.postDistrict, State.post_district, State.district_modDistrict_same]
    exact hl.with_stats hl.stable.stats.soakFailed
  · simpa [State.postDistrict, District.soakLost] using hs

/-- An INDIVIDUAL soak that fails: district, feed and waiting copy follow each other (R22, R66, R113, R115, R150). -/
theorem State.soakFail_settles {s : State} {d : DistrictId} (hl : (s.district d).Lawful)
    (hs : (s.district d).state = .soaking) {c : SoakContext} (hc : c.origin = .individual) (why : SoakFailure)
    (e : Nat) :
    ∃ u, ((s.soakFailedAt d c why e).costReturned (s.feedOfDistrict d) c).FeedSettles (s.feedOfDistrict d) u ∧
      u.DistrictSettles d (s.soakFail d { c with n := c.n + 1, e := e } why) := by
  have hoff : (s.district d).state ≠ .off := by simp [hs]
  have failed : s.soakFail d { c with n := c.n + 1, e := e } why =
      ((s.soakFailedAt d c why e).soakEndNotice (s.feedOfDistrict d) d { c with n := c.n + 1, e := e }
        .failed).deferredCopy d := by
    rw [← State.soakFailedAt_eq hl hs]; rfl
  refine ⟨_, State.feedSettles _ _, ?_⟩
  rw [failed, State.soakEndNotice_of_individual (c := { c with n := c.n + 1, e := e }) hc]
  refine State.deferredCopy_settles ?_
  have stands : StandsAt d s (s.soakFailedAt d c why e) := by
    rw [← State.soakFailedAt_eq hl hs]
    exact (StandsAt.modDistrict fun _ => .reported Stats.InRange.soakFailed).trans
      ((StandsAt.post d _ _).trans (.tripOrLatch _ fun _ => by simpa [State.postDistrict, District.soakLost] using hoff))
  have settled := stands.trans (StandsAt.soakEndNotice d _ (s.feedOfDistrict d) d c .failed)
  rw [State.soakEndNotice_of_individual hc] at settled
  exact settled.record.lawful hl

/-- The soak arithmetic on a sample that ends the soak in failure (R60, R63, R66). -/
theorem State.evaluateSoak_fails {s : State} {d : DistrictId} {x e : Nat} {c : SoakContext} {why : SoakFailure}
    (hc : (s.district d).soak = some c)
    (h : s.MeetsHard d x ∧ why = .hard ∧ e = c.e ∨
      ¬s.MeetsHard d x ∧ (s.dset d).q < c.sumWith (s.dset d).h x ∧ why = .excess ∧ e = c.sumWith (s.dset d).h x ∨
      ¬s.MeetsHard d x ∧ c.sumWith (s.dset d).h x ≤ (s.dset d).q ∧ c.n + 1 = (s.dset d).w ∧
        (s.dset d).h < (s.district d).average ∧ why = .unsettled ∧ e = c.sumWith (s.dset d).h x) :
    s.evaluateSoak d x = s.soakFail d { c with n := c.n + 1, e := e } why := by
  have sum : min Config.soakMax (c.e + excessOf x (s.dset d).h) = c.sumWith (s.dset d).h x := by
    simp only [Config.soakMax, excessOf, SoakContext.sumWith]; split <;> omega
  have hard : ∀ p : Prop, [Decidable p] → (p ↔ s.MeetsHard d x) → (s.hardMet d x = decide p) :=
    fun p _ hp => by simp [State.hardMet, hp]
  unfold State.evaluateSoak
  rw [hc]
  dsimp only
  rw [sum, hard _ .rfl]
  rcases h with ⟨hx, rfl, rfl⟩ | ⟨hx, hq, rfl, rfl⟩ | ⟨hx, hq, hw, hh, rfl, rfl⟩
  · rw [if_pos (by simpa using hx)]
  · rw [if_neg (by simpa using hx), if_pos hq]
  · rw [if_neg (by simpa using hx), if_neg (by omega), if_pos hw, if_neg (by omega)]

/-- Settles O24: the sample's first three steps, the arithmetic's failure, and what follows a soak's end. -/
theorem aSoakFailsForTheFirstCauseMet : Obligations.ASoakFailsForTheFirstCauseMet := by
  refine ⟨⟨rfl, rfl⟩, fun d x c why e s reaches soaking hsoak individual _ cause => ?_⟩
  obtain ⟨hx, -, -, hl⟩ := id reaches
  have closed : (s.district d).switch = .closed := hl.closed_iff.2 (.inr (.inr soaking))
  have record : (s.recorded d x).district d = (s.district d).sampled (s.dset d) x := by simp
  have lawful : ((s.recorded d x).district d).Lawful := (StandsAt.recorded d hx hl closed).record.lawful hl
  have soaking' : ((s.recorded d x).district d).state = .soaking := by rw [record]; exact soaking
  have feed : (s.recorded d x).feedOfDistrict d = s.feedOfDistrict d := by simp [State.feedOfDistrict]
  have ends : (s.recorded d x).evaluate d x = (s.recorded d x).soakFail d { c with n := c.n + 1, e := e } why := by
    unfold State.evaluate
    rw [soaking']
    refine State.evaluateSoak_fails (by rw [record]; exact hsoak) ?_
    rw [State.recorded_average, State.MeetsHard, State.recorded_dset]
    exact cause
  obtain ⟨u, settles, copies⟩ := State.soakFail_settles lawful soaking' individual why e
  rw [feed] at settles
  exact ⟨u, settles, _, copies, by rw [exec_sampleArrival_eq reaches closed, ends]⟩

end Sys2Proof.Machine
end

section
/-! # Mask commands: what each district's turn does, and the three masks (R9, R160) -/

namespace Sys2Proof.Machine

/-! ## One district's turn -/

/-- The verdict of a mask command at district `d` (R9). -/
def State.verdict (rule : DistrictId → State → State × Verdict) (s : State) (d : DistrictId) : Verdict :=
  if (s.dset d).kind = .unused then .refused else (rule d s).2

/-- What a mask command does where it acts on district `d` (R9). -/
def State.acted (p : Port) (c : Command) (rule : DistrictId → State → State × Verdict) (s : State) (d : DistrictId) :
    State := (((rule d s).1).postCommandState p c d).copyAfter c d

/-- Acting on one district leaves the verdict at every other as it was. -/
def VerdictsStand (p : Port) (c : Command) (rule : DistrictId → State → State × Verdict) : Prop :=
  ∀ (s : State) (d e : DistrictId), e ≠ d → s.verdict rule d = .done →
    (s.acted p c rule d).verdict rule e = s.verdict rule e

theorem Tally.step_eq (p : Port) (c : Command) (rule : DistrictId → State → State × Verdict) (t : Tally)
    (d : DistrictId) :
    Tally.step p c rule t d =
      { state := if t.state.verdict rule d = .done then t.state.acted p c rule d else t.state
        done := t.done ++ [d].filter (fun e => decide (t.state.verdict rule e = .done))
        unchanged := t.unchanged ++ [d].filter (fun e => decide (t.state.verdict rule e = .unchanged))
        refused := t.refused ++ [d].filter (fun e => decide (t.state.verdict rule e = .refused)) } := by
  unfold Tally.step
  by_cases hu : (t.state.dset d).kind = .unused
  · simp [State.verdict, hu]
  · cases hv : (rule d t.state).2 <;> simp [State.verdict, hu, hv, State.acted]

/-- The districts in order, each whole before the next, and the three sets told by the verdicts at the start. -/
theorem Tally.foldl_step {p : Port} {c : Command} {rule : DistrictId → State → State × Verdict}
    (stand : VerdictsStand p c rule) {ds : List DistrictId} (hn : ds.Nodup) (t : Tally) :
    ds.foldl (Tally.step p c rule) t =
      { state := (ds.filter (fun e => decide (t.state.verdict rule e = .done))).foldl (State.acted p c rule) t.state
        done := t.done ++ ds.filter (fun e => decide (t.state.verdict rule e = .done))
        unchanged := t.unchanged ++ ds.filter (fun e => decide (t.state.verdict rule e = .unchanged))
        refused := t.refused ++ ds.filter (fun e => decide (t.state.verdict rule e = .refused)) } := by
  induction ds generalizing t with
  | nil => simp
  | cons d ds ih =>
    rw [List.nodup_cons] at hn
    have same : ∀ e ∈ ds, (Tally.step p c rule t d).state.verdict rule e = t.state.verdict rule e := fun e he => by
      rw [Tally.step_eq]
      dsimp only
      split
      case isTrue hd => exact stand _ _ _ (by rintro rfl; exact hn.1 he) hd
      case isFalse => rfl
    have filters : ∀ v : Verdict, ds.filter (fun e => decide ((Tally.step p c rule t d).state.verdict rule e = v)) =
        ds.filter (fun e => decide (t.state.verdict rule e = v)) := fun v =>
      List.filter_congr fun e he => by rw [same e he]
    rw [List.foldl_cons, ih hn.2, filters, filters, filters, Tally.step_eq]
    by_cases hd : t.state.verdict rule d = .done <;> simp [hd, List.filter_cons]
    all_goals split <;> split <;> simp

theorem allDistricts_nodup : allDistricts.Nodup := by decide

theorem mem_namedDistricts (mask : Half) (d : DistrictId) : d ∈ namedDistricts mask ↔ mask.getLsbD d.val = true := by
  simp [namedDistricts, mem_allDistricts]

theorem namedDistricts_nodup (mask : Half) : (namedDistricts mask).Nodup :=
  List.Nodup.filter _ allDistricts_nodup

/-- A mask command by the verdicts that the districts have at its start (R9, R160). -/
theorem maskCommand_eq {p : Port} {c : Command} {rule : DistrictId → State → State × Verdict}
    (stand : VerdictsStand p c rule) (mask : Half) (s : State) {done refused : DistrictId → Bool}
    (hdone : ∀ d, done d = true ↔ mask.getLsbD d.val = true ∧ s.verdict rule d = .done)
    (hrefused : ∀ d, mask.getLsbD d.val = true → (refused d = true ↔ s.verdict rule d = .refused)) :
    maskCommand p c mask rule s =
      ((allDistricts.filter done).foldl (State.acted p c rule) s, threeMasks mask done refused) := by
  have all : (namedDistricts mask).filter done = allDistricts.filter done := by
    rw [namedDistricts, List.filter_filter]
    refine List.filter_congr fun d _ => ?_
    rw [Bool.eq_iff_iff, Bool.and_eq_true, hdone]
    tauto
  have dones : (namedDistricts mask).filter (fun e => decide (s.verdict rule e = .done)) =
      (namedDistricts mask).filter done := by
    refine List.filter_congr fun d hd => ?_
    rw [Bool.eq_iff_iff, hdone]
    simp [(mem_namedDistricts mask d).1 hd]
  have refuseds : (namedDistricts mask).filter (fun e => decide (s.verdict rule e = .refused)) =
      (namedDistricts mask).filter refused := by
    refine List.filter_congr fun d hd => ?_
    rw [Bool.eq_iff_iff, hrefused d ((mem_namedDistricts mask d).1 hd)]
    simp
  have others : (namedDistricts mask).filter (fun e => decide (s.verdict rule e = .unchanged)) =
      (namedDistricts mask).filter (fun d => !done d && !refused d) := by
    refine List.filter_congr fun d hd => ?_
    have named := (mem_namedDistricts mask d).1 hd
    rw [Bool.eq_iff_iff, Bool.and_eq_true, Bool.not_eq_true', Bool.not_eq_true', ← Bool.not_eq_true,
      ← Bool.not_eq_true, hdone, hrefused d named]
    cases hv : s.verdict rule d <;> simp [named]
  have status : maskStatus ((namedDistricts mask).filter done) ((namedDistricts mask).filter refused) =
      if (namedDistricts mask).any refused then .partly
      else if (namedDistricts mask).any done then .ok else .unchanged := by
    simp [maskStatus, List.any_eq_true]
  have tally := Tally.foldl_step stand (namedDistricts_nodup mask)
    { state := s, done := [], unchanged := [], refused := [] }
  simp only [List.nil_append, dones, others, refuseds] at tally
  unfold maskCommand
  dsimp only
  rw [tally, status]
  exact congrArg₂ Prod.mk (by rw [all]) rfl

/-! ## The answer as masks that divide the mask sent -/

theorem districtMask_getLsbD (ds : List DistrictId) (d : DistrictId) :
    (districtMask ds).getLsbD d.val = decide (d ∈ ds) := by
  induction ds with
  | nil => simp [districtMask]
  | cons e ds ih =>
    have bit : ∀ e d : DistrictId, ((1 : Half) <<< e.val).getLsbD d.val = decide (d = e) := by decide
    have cons : districtMask (e :: ds) = districtMask ds ||| (1 : Half) <<< e.val := rfl
    rw [cons, BitVec.getLsbD_or, ih, bit]
    simp [Bool.or_comm]

/-- Masks with the same districts are the same. -/
theorem Half.ext_districts {a b : Half} (h : ∀ d : DistrictId, a.getLsbD d.val = b.getLsbD d.val) : a = b :=
  BitVec.eq_of_getLsbD_eq fun i hi => h ⟨i, hi⟩

theorem districtMask_eq_zero_iff (ds : List DistrictId) : districtMask ds = 0 ↔ ds = [] := by
  refine ⟨fun h => List.eq_nil_iff_forall_not_mem.2 fun d hd => ?_, fun h => by rw [h]; rfl⟩
  have bit := districtMask_getLsbD ds d
  rw [h] at bit
  simp [hd] at bit

/-- The named districts with this verdict, as a mask. -/
def State.verdictMask (rule : DistrictId → State → State × Verdict) (mask : Half) (s : State) (v : Verdict) : Half :=
  districtMask ((namedDistricts mask).filter (fun e => decide (s.verdict rule e = v)))

theorem State.verdictMask_getLsbD (rule : DistrictId → State → State × Verdict) (mask : Half) (s : State) (v : Verdict)
    (d : DistrictId) :
    (s.verdictMask rule mask v).getLsbD d.val = (mask.getLsbD d.val && decide (s.verdict rule d = v)) := by
  rw [State.verdictMask, districtMask_getLsbD, Bool.eq_iff_iff]
  simp [mem_namedDistricts]

/-- No district has two verdicts. -/
theorem State.verdictMask_and (rule : DistrictId → State → State × Verdict) (mask : Half) (s : State) {v w : Verdict}
    (h : v ≠ w) : s.verdictMask rule mask v &&& s.verdictMask rule mask w = 0 := by
  refine Half.ext_districts fun d => ?_
  rw [BitVec.getLsbD_and, State.verdictMask_getLsbD, State.verdictMask_getLsbD]
  by_cases hv : s.verdict rule d = v
  · simp [hv, h]
  · simp [hv]

/-- The answer of a mask command in its three masks, by the verdicts at its start (R9, R160). -/
theorem maskCommand_masks {p : Port} {c : Command} {rule : DistrictId → State → State × Verdict}
    (stand : VerdictsStand p c rule) (mask : Half) (s : State) :
    ∃ (t : State) (done unchanged refused : Half),
      maskCommand p c mask rule s = (t,
        { status := if refused ≠ 0 then .partly else if done ≠ 0 then .ok else .unchanged
          data := halfBytes done ++ halfBytes unchanged ++ halfBytes refused }) ∧
      done ||| unchanged ||| refused = mask ∧ done &&& unchanged = 0 ∧ done &&& refused = 0 ∧
      unchanged &&& refused = 0 ∧
      ∀ d : DistrictId, mask.getLsbD d.val = true → (s.dset d).kind = .unused → refused.getLsbD d.val = true := by
  have tally := Tally.foldl_step stand (namedDistricts_nodup mask) { state := s, done := [], unchanged := [], refused := [] }
  refine ⟨(maskCommand p c mask rule s).1, s.verdictMask rule mask .done, s.verdictMask rule mask .unchanged,
    s.verdictMask rule mask .refused, Prod.ext rfl ?_, ?_,
    s.verdictMask_and rule mask (by simp), s.verdictMask_and rule mask (by simp), s.verdictMask_and rule mask (by simp),
    fun d named unused => ?_⟩
  · unfold maskCommand
    rw [tally]
    dsimp only [List.nil_append]
    refine congrArg₂ Reply.mk ?_ rfl
    simp only [maskStatus, State.verdictMask, ne_eq, districtMask_eq_zero_iff]
    simp
  · refine Half.ext_districts fun d => ?_
    rw [BitVec.getLsbD_or, BitVec.getLsbD_or, State.verdictMask_getLsbD, State.verdictMask_getLsbD,
      State.verdictMask_getLsbD]
    cases s.verdict rule d <;> simp
  · rw [State.verdictMask_getLsbD, named, State.verdict, if_pos unused]
    rfl

/-! ## Where acting on one district leaves the other verdicts -/

theorem State.acted_of_plain {c : Command} (hc : c ≠ .disable ∧ c ≠ .hold) (p : Port)
    (rule : DistrictId → State → State × Verdict) (s : State) (d : DistrictId) :
    s.acted p c rule d = ((rule d s).1).postCommandState p c d := by
  unfold State.acted State.copyAfter
  rw [if_neg (by simp [hc])]

/-- The rules that look at one record and change it: RELEASE, MARK-SEEN and RESET-STATS (R13, R14, R16, R17). -/
def markRule (test : District → Bool) (g : District → District) (d : DistrictId) (s : State) : State × Verdict :=
  if test (s.district d) = true then (s.modDistrict d g, .done) else (s, .unchanged)

theorem releaseRule_eq (q : Port) :
    releaseRule q = markRule (fun r => r.holds.has q) (fun r => { r with holds := r.holds.put false q }) := rfl

theorem markSeenRule_eq : markSeenRule = markRule (fun r => r.seen) (fun r => { r with seen := false }) := rfl

theorem resetStatsRule_eq :
    resetStatsRule = markRule (fun r => decide (r.stats ≠ zeroStats)) (fun r => { r with stats := zeroStats }) := by
  funext d s
  unfold resetStatsRule markRule
  by_cases h : (s.district d).stats = zeroStats <;> simp [h]

theorem markRule_verdict (test : District → Bool) (g : District → District) (d : DistrictId) (s : State) :
    (markRule test g d s).2 = if test (s.district d) = true then .done else .unchanged := by
  unfold markRule
  split <;> rfl

theorem markRule_state {test : District → Bool} {g : District → District} {d : DistrictId} {s : State}
    (h : test (s.district d) = true) : (markRule test g d s).1 = s.modDistrict d g := by
  unfold markRule
  rw [if_pos h]

theorem VerdictsStand.markRule {c : Command} (hc : c ≠ .disable ∧ c ≠ .hold) (p : Port) (test : District → Bool)
    (g : District → District) : VerdictsStand p c (markRule test g) := by
  intro s d e he _
  have record : ((s.acted p c (Machine.markRule test g) d).district e) = s.district e ∧
      (s.acted p c (Machine.markRule test g) d).dset e = s.dset e := by
    rw [State.acted_of_plain hc]
    unfold Machine.markRule
    split
    · exact ⟨State.district_modDistrict_of_ne he s g, rfl⟩
    · exact ⟨rfl, rfl⟩
  unfold State.verdict
  rw [record.2, markRule_verdict, markRule_verdict, record.1]

/-! ### ENABLE and CLEAR -/

/-- A return to service touches no other district that is not QUEUED. -/
theorem State.returnToService_bystander {s : State} {d e : DistrictId} (he : e ≠ d)
    (hq : (s.district e).state ≠ .queued) : (s.returnToService d).district e = s.district e := by
  unfold State.returnToService
  split
  · exact s.join_bystander _ he hq
  · exact State.district_modDistrict_of_ne he s _

/-- A return to service leaves another district that is QUEUED so, or grants it. -/
theorem State.returnToService_queued {s : State} {d e : DistrictId} (he : e ≠ d)
    (hq : (s.district e).state = .queued) :
    ((s.returnToService d).district e).state = .queued ∨ ((s.returnToService d).district e).state = .soaking := by
  have other : ∀ t : State, t.district e = s.district e → ∀ f, ((t.runGrantRule f).district e).state = .queued ∨
      ((t.runGrantRule f).district e).state = .soaking := fun t ht f => by
    rcases (t.runGrantRule_grants f).districts e with k | ⟨-, -, k⟩ <;> rw [k]
    · exact .inl (by rw [ht]; exact hq)
    · exact .inr rfl
  unfold State.returnToService State.join
  split
  · refine other _ ?_ _
    rw [State.enqueue, State.modFeed_district, State.district_modDistrict_of_ne he]
  · exact .inl (by rw [State.district_modDistrict_of_ne he]; exact hq)

theorem State.returnToService_dset (s : State) (d e : DistrictId) : (s.returnToService d).dset e = s.dset e := by
  unfold State.returnToService
  split
  · exact (State.runGrantRule_grants _ _).records.dset e
  · rfl

/-- A rule that acts by a return to service, and finds nothing to do at a QUEUED or SOAKING district. -/
theorem VerdictsStand.of_returns {c : Command} (hc : c ≠ .disable ∧ c ≠ .hold) (p : Port)
    {rule : DistrictId → State → State × Verdict} {g : District → District}
    (acts : ∀ d s, (rule d s).2 = .done → (rule d s).1 = (s.modDistrict d g).returnToService d)
    (record : ∀ d s t, State.district t d = State.district s d → (rule d t).2 = (rule d s).2)
    (idle : ∀ d s, (State.district s d).state = .queued ∨ (State.district s d).state = .soaking →
      (rule d s).2 = .unchanged) : VerdictsStand p c rule := by
  intro s d e he hd
  have hd' : (rule d s).2 = .done := by
    unfold State.verdict at hd
    split at hd
    · cases hd
    · exact hd
  have state : s.acted p c rule d = ((s.modDistrict d g).returnToService d).postCommandState p c d := by
    rw [State.acted_of_plain hc, acts d s hd']
  have set : (s.acted p c rule d).dset e = s.dset e := by
    rw [state]
    exact State.returnToService_dset _ d e
  have other : (s.modDistrict d g).district e = s.district e := State.district_modDistrict_of_ne he s g
  unfold State.verdict
  rw [set]
  split
  · rfl
  · by_cases hq : (s.district e).state = .queued
    · have after := State.returnToService_queued he (other ▸ hq)
      rw [idle e s (.inl hq), idle e (s.acted p c rule d) (by rw [state]; exact after)]
    · refine record e s _ ?_
      rw [state]
      exact (State.returnToService_bystander he (by rw [other]; exact hq)).trans other

theorem enableRule_done {d : DistrictId} {s : State} (h : (enableRule d s).2 = .done) :
    (enableRule d s).1 = (s.modDistrict d (fun r => { r with retry := 0 })).returnToService d := by
  unfold enableRule at h ⊢
  split at h <;> rename_i hs
  · split at h <;> rename_i he
    · rw [if_pos he]
    · cases h
  all_goals cases h

theorem enableRule_verdict (d : DistrictId) (s : State) :
    (enableRule d s).2 =
      if (s.district d).state = .off then (if (s.district d).holds.isEmpty = true then .done else .refused)
      else if (s.district d).state = .latched then .refused else .unchanged := by
  unfold enableRule
  cases hs : (s.district d).state <;> simp
  split <;> rfl

theorem clearRule_verdict (d : DistrictId) (s : State) :
    (clearRule d s).2 = if (s.district d).state = .latched then .done else .unchanged := by
  unfold clearRule
  split <;> rfl

theorem clearRule_done {d : DistrictId} {s : State} (h : (clearRule d s).2 = .done) :
    (clearRule d s).1 = (s.modDistrict d (fun r => { r with retry := 0, suspect := 0 })).returnToService d := by
  unfold clearRule at h ⊢
  split at h <;> rename_i hs
  · rw [if_pos hs]
  · cases h

theorem VerdictsStand.enable (p : Port) : VerdictsStand p .enable enableRule :=
  .of_returns (by simp) p (fun _ _ => enableRule_done)
    (fun d s t h => by rw [enableRule_verdict, enableRule_verdict, h])
    (fun d s h => by rw [enableRule_verdict]; rcases h with k | k <;> simp [k])

theorem VerdictsStand.clear (p : Port) : VerdictsStand p .clear clearRule :=
  .of_returns (by simp) p (fun _ _ => clearRule_done)
    (fun d s t h => by rw [clearRule_verdict, clearRule_verdict, h])
    (fun d s h => by rw [clearRule_verdict]; rcases h with k | k <;> simp [k])

/-! ### HOLD and DISABLE -/

theorem holdRule_verdict (p : Port) (d : DistrictId) (s : State) :
    (holdRule p d s).2 =
      if (s.district d).holds.has p = true ∧ (s.district d).state = .off then .unchanged else .done := by
  unfold holdRule
  split <;> rfl

theorem disableRule_verdict (d : DistrictId) (s : State) :
    (disableRule d s).2 = if (s.district d).state = .off then .unchanged else .done := by
  unfold disableRule
  split <;> rfl

theorem StandsAt.holdRule {e d : DistrictId} (h : e ≠ d) (p : Port) (s : State) : StandsAt e s (holdRule p d s).1 := by
  have held : StandsAt e s (s.modDistrict d (fun r => { r with holds := r.holds.put true p })) :=
    .modDistrict fun he => absurd he h
  unfold Machine.holdRule
  split
  · exact .refl e s
  · dsimp only
    split
    · exact held
    · exact held.trans (.toOff h _)

theorem StandsAt.disableRule {e d : DistrictId} (h : e ≠ d) (s : State) : StandsAt e s (disableRule d s).1 := by
  unfold Machine.disableRule
  split
  · exact .refl e s
  · exact .toOff h s

theorem StandsAt.acted {e d : DistrictId} (h : e ≠ d) {p : Port} {c : Command}
    {rule : DistrictId → State → State × Verdict} {s : State} (hr : StandsAt e s (rule d s).1) :
    StandsAt e s (s.acted p c rule d) := by
  have copied : ∀ t : State, StandsAt e t (t.copyAfter c d) := fun t => by
    unfold State.copyAfter
    split
    · exact .deferredCopy h t
    · exact .refl e t
  exact hr.trans ((StandsAt.post e _ _).trans (copied _))

/-- A rule whose verdict is told by the hold set and by whether the district is OFF. -/
theorem VerdictsStand.of_stands {p : Port} {c : Command} {rule : DistrictId → State → State × Verdict}
    (stands : ∀ e d s, e ≠ d → StandsAt e s (rule d s).1)
    (told : ∀ (d : DistrictId) (s t : State), (t.district d).holds = (s.district d).holds →
      ((t.district d).state = .off ↔ (s.district d).state = .off) → (rule d t).2 = (rule d s).2) :
    VerdictsStand p c rule := by
  intro s d e he _
  have stand : StandsAt e s (s.acted p c rule d) := .acted he (stands e d s he)
  unfold State.verdict
  rw [stand.dset, told e s _ stand.holds stand.off]

theorem VerdictsStand.hold (p : Port) : VerdictsStand p .hold (holdRule p) :=
  .of_stands (fun _ _ s he => .holdRule he p s) fun d s t hh ho => by
    simp only [holdRule_verdict, hh, ho]

theorem VerdictsStand.disable (p : Port) : VerdictsStand p .disable disableRule :=
  .of_stands (fun _ _ s he => .disableRule he s) fun d s t _ ho => by
    simp only [disableRule_verdict, ho]

/-! ## A request at its owner -/

/-- A request that its port may send is served at once. -/
theorem State.MayRequest.serve {s : State} {p : Port} {c : Command} (h : s.MayRequest p c) {i : Instr} {ps : List Byte}
    (he : encodeRequest i = some (p, c, ps)) (body : State → State × Reply) :
    s.serve i body = ((body s).1).respond p c.code (body s).2 := by
  obtain ⟨running, permits, free⟩ := h
  exact State.serve_of_permits he running permits free body

theorem portCode_of_le {k : Byte} (h : k.toNat ≤ 2) : ∃ q, portOfCode k = some q ∧ k = portCode q := by
  have cases : k = 0 ∨ k = 1 ∨ k = 2 := by
    have := k.isLt
    rcases (by omega : k.toNat = 0 ∨ k.toNat = 1 ∨ k.toNat = 2) with e | e | e
    · exact .inl (BitVec.eq_of_toNat_eq e)
    · exact .inr (.inl (BitVec.eq_of_toNat_eq e))
    · exact .inr (.inr (BitVec.eq_of_toNat_eq e))
  rcases cases with rfl | rfl | rfl
  · exact ⟨.a, rfl, rfl⟩
  · exact ⟨.b, rfl, rfl⟩
  · exact ⟨.c, rfl, rfl⟩

theorem releaseForeign_eq {k : Byte} {q : Port} (h : portOfCode k = some q) (p : Port) (mask : Half) :
    releaseForeign p mask k = maskCommand p .releaseForeign mask (releaseRule q) := by
  funext s
  unfold releaseForeign
  rw [h]

/-- Settles O43: every verdict is told by the state at the start, and each named district has one. -/
theorem maskCommandsAnswerInThreeMasks : Obligations.MaskCommandsAnswerInThreeMasks := by
  refine ⟨fun _ => rfl, fun i p c mask s row may => ?_⟩
  have answer : ∀ {rule : DistrictId → State → State × Verdict} {ps : List Byte}, VerdictsStand p c rule →
      exec i s = .next (s.serve i (maskCommand p c mask rule)) → encodeRequest i = some (p, c, ps) →
      ∃ (t : State) (done unchanged refused : Half),
        exec i s = .next (t.respond p c.code
          { status := if refused ≠ 0 then .partly else if done ≠ 0 then .ok else .unchanged
            data := halfBytes done ++ halfBytes unchanged ++ halfBytes refused }) ∧
        done ||| unchanged ||| refused = mask ∧ done &&& unchanged = 0 ∧ done &&& refused = 0 ∧
        unchanged &&& refused = 0 ∧
        ∀ d : DistrictId, mask.getLsbD d.val = true → (s.dset d).kind = .unused → refused.getLsbD d.val = true := by
    intro rule ps stand served encoded
    obtain ⟨t, done, unchanged, refused, reply, masks⟩ := maskCommand_masks stand mask s
    exact ⟨t, done, unchanged, refused, by rw [served, may.serve encoded, reply], masks⟩
  rcases row with ⟨rfl, rfl⟩ | ⟨rfl, rfl⟩ | ⟨rfl, rfl⟩ | ⟨rfl, rfl⟩ | ⟨rfl, rfl⟩ | ⟨rfl, rfl⟩ | ⟨rfl, rfl⟩ |
    ⟨⟨k, hk, rfl⟩, rfl⟩
  · exact answer (.enable p) rfl rfl
  · exact answer (.disable p) rfl rfl
  · exact answer (.hold p) rfl rfl
  · exact answer (releaseRule_eq p ▸ .markRule (by simp) p _ _) rfl rfl
  · exact answer (.clear p) rfl rfl
  · exact answer (markSeenRule_eq ▸ .markRule (by simp) p _ _) rfl rfl
  · exact answer (resetStatsRule_eq ▸ .markRule (by simp) p _ _) rfl rfl
  · obtain ⟨q, hq, -⟩ := portCode_of_le hk
    refine answer (rule := releaseRule q) (releaseRule_eq q ▸ .markRule (by simp) p _ _) ?_ rfl
    rw [← releaseForeign_eq hq]
    rfl

end Sys2Proof.Machine
end

section
/-! # Mask commands that clear marks, holds and counts, and those that return districts to service
(R9, R10, R13 to R17) -/

namespace Sys2Proof.Machine

/-! ## Changes at one district after the other, with their COMMAND-STATE -/

theorem State.SameElsewhere.refl (s : State) : s.SameElsewhere s := ⟨rfl, rfl, rfl, rfl, rfl, rfl, rfl, rfl, rfl, rfl⟩

theorem State.SameElsewhere.trans {s t u : State} (h : s.SameElsewhere t) (k : t.SameElsewhere u) :
    s.SameElsewhere u := by
  obtain ⟨h1, h2, h3, h4, h5, h6, h7, h8, h9, h10⟩ := h
  obtain ⟨k1, k2, k3, k4, k5, k6, k7, k8, k9, k10⟩ := k
  exact ⟨k1.trans h1, k2.trans h2, k3.trans h3, k4.trans h4, k5.trans h5, k6.trans h6, k7.trans h7, k8.trans h8,
    k9.trans h9, k10.trans h10⟩

theorem State.SameElsewhere.now {s t : State} (h : s.SameElsewhere t) : t.now = s.now := by
  obtain ⟨-, -, now, -⟩ := h; exact now

theorem State.SameElsewhere.feed {s t : State} (h : s.SameElsewhere t) (f : FeedId) : t.feed f = s.feed f := by
  obtain ⟨-, -, -, -, feeds, -⟩ := h
  simp only [State.feed, feeds]

theorem State.SameElsewhere.dset {s t : State} (h : s.SameElsewhere t) (d : DistrictId) : t.dset d = s.dset d := by
  obtain ⟨-, -, -, -, -, -, active, -⟩ := h
  simp only [State.dset, active]

/-- COMMAND-STATE of a district in the state `t`. -/
def State.commandEvent (t : State) (p : Port) (code : Byte) (d : DistrictId) : Event :=
  { kind := .commandState, subject := .district d, origin := .port p, detail := code
    value := halfOf ((t.district d).state.code +
      256 * flagsNumber [(t.district d).holds.a, (t.district d).holds.b, (t.district d).holds.c]) }

theorem State.postCommandState_eq (t : State) (p : Port) (c : Command) (d : DistrictId) :
    t.postCommandState p c d = t.post (t.commandEvent p c.code d) := by
  unfold State.postCommandState State.commandEvent
  rw [HoldSet.code_eq]

theorem State.announced_cons (s t : State) (p : Port) (code : Byte) (d : DistrictId) (ds : List DistrictId) :
    s.announced t p code (d :: ds) = (s.post (t.commandEvent p code d)).announced t p code ds := rfl

/-- Events posted from states with the same ring, ports and clock leave the same ring and ports. -/
theorem State.ReportsLike.post {s t : State} (h : s.ReportsLike t) (hn : s.now = t.now) (ev : Event) :
    (s.post ev).ReportsLike (t.post ev) := by
  obtain ⟨hr, hp⟩ := h
  unfold State.ReportsLike State.post
  dsimp only
  rw [hr, hp, hn]
  exact ⟨rfl, rfl⟩

theorem State.ReportsLike.announced {s t : State} (h : s.ReportsLike t) (hn : s.now = t.now) (u : State) (p : Port)
    (code : Byte) (ds : List DistrictId) : (s.announced u p code ds).ReportsLike (t.announced u p code ds) := by
  induction ds generalizing s t with
  | nil => exact h
  | cons d ds ih => exact ih (h.post hn _) hn

/-- The districts `ds` are changed one after the other by `g`, each with its COMMAND-STATE. -/
structure ChangedInTurn (p : Port) (code : Byte) (g : DistrictId → District → District) (ds : List DistrictId)
    (s t : State) : Prop where
  records : ∀ d, t.district d = if d ∈ ds then g d (s.district d) else s.district d
  reports : t.ReportsLike (s.announced t p code ds)
  elsewhere : s.SameElsewhere t

theorem ChangedInTurn.cons {p : Port} {c : Command} {g : DistrictId → District → District} {d : DistrictId}
    {ds : List DistrictId} {s t : State} (hd : d ∉ ds)
    (h : ChangedInTurn p c.code g ds ((s.modDistrict d (g d)).postCommandState p c d) t) :
    ChangedInTurn p c.code g (d :: ds) s t where
  records e := by
    have before : ((s.modDistrict d (g d)).postCommandState p c d).district e =
        if e = d then g d (s.district d) else s.district e := s.district_modDistrict d e (g d)
    rw [h.records, before]
    by_cases he : e = d
    · subst he; simp [hd]
    · simp [he]
  reports := by
    have record : t.district d = (s.modDistrict d (g d)).district d := by rw [h.records, if_neg hd]; rfl
    have event : (s.modDistrict d (g d)).commandEvent p c.code d = t.commandEvent p c.code d := by
      unfold State.commandEvent; rw [record]
    have first : ((s.modDistrict d (g d)).postCommandState p c d).ReportsLike (s.post (t.commandEvent p c.code d)) := by
      rw [State.postCommandState_eq, event]
      exact ⟨rfl, rfl⟩
    obtain ⟨k1, k2⟩ := first.announced rfl t p c.code ds
    obtain ⟨h1, h2⟩ := h.reports
    rw [State.announced_cons]
    exact ⟨h1.trans k1, h2.trans k2⟩
  elsewhere := State.SameElsewhere.trans ⟨rfl, rfl, rfl, rfl, rfl, rfl, rfl, rfl, rfl, rfl⟩ h.elsewhere

/-- A mask command whose rule acts at each district by a change of its record alone. -/
theorem State.foldl_acted_changedInTurn {p : Port} {c : Command} {rule : DistrictId → State → State × Verdict}
    {g : DistrictId → District → District} {ds : List DistrictId} (hn : ds.Nodup) {s : State}
    (h : ∀ t, ∀ d ∈ ds, t.district d = s.district d → s.SameElsewhere t →
      t.acted p c rule d = (t.modDistrict d (g d)).postCommandState p c d) :
    ChangedInTurn p c.code g ds s (ds.foldl (State.acted p c rule) s) := by
  induction ds generalizing s with
  | nil => exact ⟨fun d => by simp, ⟨rfl, rfl⟩, .refl s⟩
  | cons d ds ih =>
    rw [List.nodup_cons] at hn
    have first := h s d (by simp) rfl (.refl s)
    refine .cons hn.1 ?_
    rw [← first, List.foldl_cons]
    refine ih hn.2 fun t e he record elsewhere => h t e (by simp [he]) ?_ ?_
    · rw [record, first]
      exact State.district_modDistrict_of_ne (by rintro rfl; exact hn.1 he) s _
    · rw [first] at elsewhere
      exact State.SameElsewhere.trans ⟨rfl, rfl, rfl, rfl, rfl, rfl, rfl, rfl, rfl, rfl⟩ elsewhere

/-- The records after such a command, where the change does nothing at a handled district that is not acted on. -/
theorem ChangedInTurn.records_of {p : Port} {code : Byte} {g : DistrictId → District → District} {s t : State}
    {done handled : DistrictId → Bool} (h : ChangedInTurn p code g (allDistricts.filter done) s t)
    (hd : ∀ d, done d = true → handled d = true)
    (same : ∀ d, handled d = true → done d = false → g d (s.district d) = s.district d) (d : DistrictId) :
    t.district d = if handled d = true then g d (s.district d) else s.district d := by
  have mem : d ∈ allDistricts.filter done ↔ done d = true := by simp [mem_allDistricts]
  rw [h.records]
  simp only [mem]
  by_cases hdone : done d = true
  · rw [if_pos hdone, if_pos (hd d hdone)]
  · rw [if_neg hdone]
    split
    · exact (same d ‹_› (Bool.eq_false_iff.2 hdone)).symm
    · rfl

/-! ## MARK-SEEN, RELEASE and RESET-STATS (R13, R14, R16, R17) -/

theorem State.handles_iff (s : State) (mask : Half) (d : DistrictId) :
    s.handles mask d = true ↔ mask.getLsbD d.val = true ∧ (s.dset d).kind ≠ .unused := by
  simp [State.handles]

theorem State.verdict_of_used {s : State} {d : DistrictId} (h : (s.dset d).kind ≠ .unused)
    (rule : DistrictId → State → State × Verdict) : s.verdict rule d = (rule d s).2 := if_neg h

/-- The districts that a mask command acts on are handled ones. -/
theorem State.handled_done_iff (s : State) (mask : Half) (rule : DistrictId → State → State × Verdict) (d : DistrictId)
    (test : Bool) (h : (s.dset d).kind ≠ .unused → ((rule d s).2 = .done ↔ test = true)) :
    (s.handles mask d && test) = true ↔ mask.getLsbD d.val = true ∧ s.verdict rule d = .done := by
  rw [Bool.and_eq_true, State.handles_iff]
  by_cases hu : (s.dset d).kind = .unused
  · simp [State.verdict, hu]
  · rw [State.verdict_of_used hu, h hu]
    simp [hu]

/-- A district that a mask command refuses at sight is an UNUSED one. -/
theorem State.refused_iff_not_handled {s : State} {mask : Half} {rule : DistrictId → State → State × Verdict}
    {d : DistrictId} (named : mask.getLsbD d.val = true) (h : (rule d s).2 ≠ .refused) :
    (!s.handles mask d) = true ↔ s.verdict rule d = .refused := by
  by_cases hu : (s.dset d).kind = .unused
  · simp [State.handles, State.verdict, hu]
  · simp [State.handles, State.verdict_of_used hu, hu, named, h]

/-- A command that tests and changes the named records, and no more. -/
theorem markCommand_outcome {i : Instr} {p : Port} {c : Command} {ps : List Byte} {mask : Half} {s : State}
    {test : District → Bool} {g : District → District} (hc : c ≠ .disable ∧ c ≠ .hold)
    (served : exec i s = .next (s.serve i (maskCommand p c mask (markRule test g))))
    (encoded : encodeRequest i = some (p, c, ps)) (may : s.MayRequest p c) (idle : ∀ r, test r = false → g r = r) :
    ∃ t : State, exec i s = .next (t.respond p c.code
        (threeMasks mask (fun d => s.handles mask d && test (s.district d)) (fun d => !s.handles mask d))) ∧
      (∀ d, t.district d = if s.handles mask d = true then g (s.district d) else s.district d) ∧
      t.ReportsLike (s.announced t p c.code (allDistricts.filter (fun d => s.handles mask d && test (s.district d)))) ∧
      s.SameElsewhere t := by
  have changed := State.foldl_acted_changedInTurn (p := p) (c := c) (rule := markRule test g) (g := fun _ => g)
    (ds := allDistricts.filter (fun d => s.handles mask d && test (s.district d))) (s := s)
    (List.Nodup.filter _ allDistricts_nodup) fun t d hd record _ => by
      rw [List.mem_filter, Bool.and_eq_true] at hd
      rw [State.acted_of_plain hc, markRule_state (by rw [record]; exact hd.2.2)]
  refine ⟨_, ?_, fun d => changed.records_of (fun d hd => (Bool.and_eq_true _ _ ▸ hd).1) (fun d handled not => ?_) d,
    changed.reports, changed.elsewhere⟩
  · rw [served, may.serve encoded, maskCommand_eq (.markRule hc p test g) mask s (fun d => ?_) (fun d named => ?_)]
    · exact State.handled_done_iff s mask _ d _ fun _ => by rw [markRule_verdict]; split <;> simp_all
    · exact State.refused_iff_not_handled named (by rw [markRule_verdict]; split <;> simp)
  · exact idle _ (by simpa [handled] using not)

/-- Settles O44: each of the four commands tests and changes the named records, and no more. -/
theorem marksHoldsAndCountsAreCleared : Obligations.MarksHoldsAndCountsAreCleared := by
  intro p mask s
  refine ⟨fun may => ?_, fun q i code row => ?_, fun may => ?_⟩
  · exact markCommand_outcome (c := .markSeen) (test := fun r => r.seen) (g := fun r => { r with seen := false })
      (by simp) rfl rfl may fun r hr => by cases r; simp_all
  · have idle : ∀ r : District, r.holds.has q = false → ({ r with holds := r.holds.put false q } : District) = r :=
      fun r hr => by
        obtain ⟨state, switch, polarity, ⟨a, b, c⟩⟩ := r
        cases q <;> simp_all [HoldSet.has, HoldSet.put]
    have released : ∀ {i : Instr} {c : Command} {ps : List Byte}, c ≠ .disable ∧ c ≠ .hold →
        exec i s = .next (s.serve i (maskCommand p c mask (releaseRule q))) → encodeRequest i = some (p, c, ps) →
        s.MayRequest p c → _ := fun hc served encoded may =>
      markCommand_outcome (test := fun r => r.holds.has q) (g := fun r => { r with holds := r.holds.put false q }) hc
        served encoded may idle
    rcases row with ⟨rfl, rfl, rfl, may⟩ | ⟨rfl, rfl, may⟩
    · cases q <;> exact released (c := .release) (by simp) rfl rfl may
    · have named : portOfCode (portCode q) = some q := by cases q <;> rfl
      have served : exec (.releaseForeign p mask (portCode q)) s = .next (s.serve (.releaseForeign p mask (portCode q))
          (maskCommand p .releaseForeign mask (releaseRule q))) := by
        rw [← releaseForeign_eq named]; rfl
      cases q <;> exact released (by simp) served rfl may
  · have outcome := markCommand_outcome (c := .resetStats) (test := fun r => decide (r.stats ≠ zeroStats))
      (g := fun r => { r with stats := zeroStats }) (i := .resetStats p mask) (mask := mask) (s := s) (by simp)
      (resetStatsRule_eq ▸ rfl) rfl may fun r hr => by
        have zero : r.stats = zeroStats := by simpa using hr
        rw [← zero]
    exact outcome

end Sys2Proof.Machine
end

section
/-! # ENABLE and CLEAR (R10, R15) -/

namespace Sys2Proof.Machine

/-! ## The verdicts, as the answer counts them -/

theorem enable_done_iff (s : State) (mask : Half) (d : DistrictId) :
    (s.handles mask d && decide ((s.district d).state = .off) && (s.district d).holds.isEmpty) = true ↔
      mask.getLsbD d.val = true ∧ s.verdict enableRule d = .done := by
  rw [Bool.and_assoc]
  refine State.handled_done_iff s mask enableRule d _ fun _ => ?_
  rw [enableRule_verdict]
  by_cases ho : (s.district d).state = .off
  · by_cases hh : (s.district d).holds.isEmpty = true <;> simp [ho, hh]
  · by_cases hl : (s.district d).state = .latched <;> simp [hl, ho]

theorem enable_refused_iff {s : State} {mask : Half} {d : DistrictId} (named : mask.getLsbD d.val = true) :
    (!s.handles mask d || decide ((s.district d).state = .latched) ||
      decide ((s.district d).state = .off) && !(s.district d).holds.isEmpty) = true ↔
      s.verdict enableRule d = .refused := by
  by_cases hu : (s.dset d).kind = .unused
  · simp [State.handles, State.verdict, hu]
  · rw [State.verdict_of_used hu, enableRule_verdict]
    have handled : s.handles mask d = true := (s.handles_iff mask d).2 ⟨named, hu⟩
    by_cases ho : (s.district d).state = .off
    · by_cases hh : (s.district d).holds.isEmpty = true <;> simp [handled, ho, hh]
    · by_cases hl : (s.district d).state = .latched <;> simp [handled, hl, ho]

theorem clear_done_iff (s : State) (mask : Half) (d : DistrictId) :
    (s.handles mask d && decide ((s.district d).state = .latched)) = true ↔
      mask.getLsbD d.val = true ∧ s.verdict clearRule d = .done :=
  State.handled_done_iff s mask clearRule d _ fun _ => by rw [clearRule_verdict]; split <;> simp_all

theorem clear_refused_iff {s : State} {mask : Half} {d : DistrictId} (named : mask.getLsbD d.val = true) :
    (!s.handles mask d) = true ↔ s.verdict clearRule d = .refused :=
  State.refused_iff_not_handled named (by rw [clearRule_verdict]; split <;> simp)

/-! ## Both commands, district by district -/

/-- The record of a district that ENABLE or CLEAR acts on, before it returns to service (R10, R15). -/
def District.forgiven (clears : Bool) (r : District) : District :=
  { r with retry := 0, suspect := if clears = true then 0 else r.suspect }

/-- The record of such a district once it is DARK. -/
def District.returned (clears : Bool) (r : District) : District :=
  { r with state := .dark, retry := 0, suspect := if clears = true then 0 else r.suspect }

/-- A rule that acts on OFF or LATCHED districts by their return to service, forgiven. -/
structure ReturnRule (clears : Bool) (rule : DistrictId → State → State × Verdict) : Prop where
  acts : ∀ {d s}, (rule d s).2 = .done → (rule d s).1 = (s.modDistrict d (District.forgiven clears)).returnToService d
  rests : ∀ {d s}, (rule d s).2 = .done → (s.district d).state = .off ∨ (s.district d).state = .latched
  record : ∀ {d s t}, State.district t d = State.district s d → (rule d t).2 = (rule d s).2

theorem ReturnRule.enable : ReturnRule false enableRule where
  acts h := enableRule_done h
  rests {d s} h := by
    rw [enableRule_verdict] at h
    by_cases ho : (s.district d).state = .off
    · exact .inl ho
    · rw [if_neg ho] at h
      split at h <;> cases h
  record h := by rw [enableRule_verdict, enableRule_verdict, h]

theorem ReturnRule.clear : ReturnRule true clearRule where
  acts h := clearRule_done h
  rests {d s} h := by
    rw [clearRule_verdict] at h
    split at h
    · exact .inr ‹_›
    · cases h
  record h := by rw [clearRule_verdict, clearRule_verdict, h]

section
variable {clears : Bool} {p : Port} {c : Command} {rule : DistrictId → State → State × Verdict}

theorem District.Rested.forgiven {r : District} (h : r.Rested) (clears : Bool) : (r.forgiven clears).Rested :=
  ⟨h.switch, h.window, h.sum, h.fill, h.occupancy, h.soak, h.deferral, h.grace, h.preSwap, h.checkCount, h.settle,
    h.deadTime⟩

/-- An OFF or LATCHED district is at rest, without a cool-down. -/
theorem District.Lawful.rested_of_off_or_latched {r : District} (h : r.Lawful)
    (hr : r.state = .off ∨ r.state = .latched) : r.Rested ∧ r.coolDown = none := by
  rcases hr with k | k <;> exact ⟨h.rested (by simp [k, DState.rests]), h.coolDown_none (by simp [k])⟩

/-- A forgiven district goes DARK. -/
theorem District.forgiven_dark {r : District} (hc : r.coolDown = none) (clears : Bool) :
    ({ r.forgiven clears with state := .dark, coolDown := none } : District) = r.returned clears := by
  unfold District.forgiven District.returned
  rw [← hc]

theorem State.acted_eq_returned (hc : c ≠ .disable ∧ c ≠ .hold) (hr : ReturnRule clears rule) {s : State}
    {d : DistrictId} (hd : (rule d s).2 = .done) :
    s.acted p c rule d =
      ((s.modDistrict d (District.forgiven clears)).returnToService d).post
        (((s.modDistrict d (District.forgiven clears)).returnToService d).commandEvent p c.code d) := by
  rw [State.acted_of_plain hc, hr.acts hd, State.postCommandState_eq]

/-- On a feed that is not UP the district is DARK after it, and nothing else changes (R10, R112). -/
theorem State.acted_of_not_up (hc : c ≠ .disable ∧ c ≠ .hold) (hr : ReturnRule clears rule) {s : State}
    {d : DistrictId} (hd : (rule d s).2 = .done) (hl : (s.district d).Lawful)
    (hf : (s.feed (s.feedOfDistrict d)).state ≠ .up) :
    s.acted p c rule d = (s.modDistrict d (District.returned clears)).postCommandState p c d := by
  obtain ⟨rested, cool⟩ := hl.rested_of_off_or_latched (hr.rests hd)
  have dark : (s.modDistrict d (District.forgiven clears)).returnToService d =
      s.modDistrict d (District.returned clears) := by
    unfold State.returnToService
    rw [if_neg (by exact hf), State.modDistrict_enter_of_rested (by simpa using rested.forgiven clears) (by simp),
      State.modDistrict_modDistrict]
    exact State.modDistrict_congr (District.forgiven_dark cool clears)
  rw [State.acted_of_plain hc, hr.acts hd, dark]

/-- A return to service by a command, in the rules' words (R10, R15, R112). -/
theorem State.forgiven_returns (hr : ReturnRule clears rule) {s : State} {d : DistrictId} (hd : (rule d s).2 = .done)
    (hl : (s.district d).Lawful) :
    (s.modDistrict d (District.returned clears)).Returns (s.feedOfDistrict d) d
      ((s.modDistrict d (District.forgiven clears)).returnToService d) := by
  obtain ⟨rested, cool⟩ := hl.rested_of_off_or_latched (hr.rests hd)
  have dark : (s.modDistrict d (District.forgiven clears)).modDistrict d
      (fun r => { r with state := .dark, coolDown := none }) = s.modDistrict d (District.returned clears) := by
    rw [State.modDistrict_modDistrict]
    exact State.modDistrict_congr (District.forgiven_dark cool clears)
  have returns := State.returnToService_returns (s := s.modDistrict d (District.forgiven clears)) (d := d)
    (by simpa using rested.forgiven clears)
  rw [dark] at returns
  exact returns

/-- These districts return to service one after the other, each whole before the next (R9). -/
theorem State.foldl_acted_returnedBy (hc : c ≠ .disable ∧ c ≠ .hold) (hr : ReturnRule clears rule)
    {ds : List DistrictId} (hn : ds.Nodup) {s : State} (hd : ∀ d ∈ ds, (rule d s).2 = .done ∧ (s.district d).Lawful) :
    State.ReturnedBy p c.code clears ds s (ds.foldl (State.acted p c rule) s) := by
  induction ds generalizing s with
  | nil => rfl
  | cons d ds ih =>
    obtain ⟨done, lawful⟩ := hd d (by simp)
    rw [List.nodup_cons] at hn
    refine ⟨_, State.forgiven_returns hr done lawful, ?_⟩
    rw [List.foldl_cons]
    have turn := State.acted_eq_returned (p := p) hc hr done
    unfold State.commandEvent at turn
    rw [← turn]
    refine ih hn.2 fun e he => ?_
    obtain ⟨done', lawful'⟩ := hd e (by simp [he])
    have ne : e ≠ d := by rintro rfl; exact hn.1 he
    have same : (s.acted p c rule d).district e = s.district e := by
      have before := State.district_modDistrict_of_ne ne s (District.forgiven clears)
      rw [State.acted_eq_returned hc hr done, State.post_district, State.returnToService_bystander ne, before]
      rw [before]
      rcases hr.rests done' with k | k <;> simp [k]
    exact ⟨(hr.record same).trans done', same ▸ lawful'⟩

/-- What a mask command by such a rule does: in any state the named districts return one after the other; on feeds that
are not UP all that changes is their records. -/
theorem returnCommand_outcome {i : Instr} {ps : List Byte} {mask : Half} {s : State} (hc : c ≠ .disable ∧ c ≠ .hold)
    (hr : ReturnRule clears rule) (stand : VerdictsStand p c rule)
    (served : exec i s = .next (s.serve i (maskCommand p c mask rule))) (encoded : encodeRequest i = some (p, c, ps))
    (may : s.MayRequest p c) {done refused : DistrictId → Bool}
    (hdone : ∀ d, done d = true ↔ mask.getLsbD d.val = true ∧ s.verdict rule d = .done)
    (hrefused : ∀ d, mask.getLsbD d.val = true → (refused d = true ↔ s.verdict rule d = .refused))
    (lawful : ∀ d, s.handles mask d = true → (s.district d).Lawful) :
    ∃ t : State, exec i s = .next (t.respond p c.code (threeMasks mask done refused)) ∧
      State.ReturnedBy p c.code clears (allDistricts.filter done) s t ∧
      ((∀ d, s.handles mask d = true → (s.feed (s.feedOfDistrict d)).state ≠ .up) →
        ChangedInTurn p c.code (fun _ => District.returned clears) (allDistricts.filter done) s t) := by
  have acting : ∀ d ∈ allDistricts.filter done, s.handles mask d = true ∧ (rule d s).2 = .done := fun d hd => by
    obtain ⟨named, verdict⟩ := (hdone d).1 (List.mem_filter.1 hd).2
    have used : (s.dset d).kind ≠ .unused := fun k => by simp [State.verdict, k] at verdict
    exact ⟨(s.handles_iff mask d).2 ⟨named, used⟩, by rwa [State.verdict_of_used used] at verdict⟩
  refine ⟨(allDistricts.filter done).foldl (State.acted p c rule) s, ?_, ?_, fun down => ?_⟩
  · rw [served, may.serve encoded, maskCommand_eq stand mask s hdone hrefused]
  · exact State.foldl_acted_returnedBy hc hr (List.Nodup.filter _ allDistricts_nodup) fun d hd =>
      ⟨(acting d hd).2, lawful d (acting d hd).1⟩
  · refine State.foldl_acted_changedInTurn (List.Nodup.filter _ allDistricts_nodup) fun t d hd record elsewhere => ?_
    obtain ⟨handled, verdict⟩ := acting d hd
    refine State.acted_of_not_up hc hr ((hr.record record).trans verdict) (record ▸ lawful d handled) ?_
    rw [elsewhere.feed, State.feedOfDistrict, elsewhere.dset]
    exact down d handled

end

theorem HoldSet.isEmpty_iff (h : HoldSet) : h.isEmpty = true ↔ h = noHolds := by
  obtain ⟨a, b, c⟩ := h
  cases a <;> cases b <;> cases c <;> decide

/-- Settles O46: both commands return OFF or LATCHED districts to service, in ascending order. -/
theorem enableAndClearReturnToService : Obligations.EnableAndClearReturnToService := by
  refine ⟨⟨rfl, HoldSet.isEmpty_iff⟩, fun p mask s => ?_⟩
  have enabled := fun (may : s.MayRequest p .enable) => returnCommand_outcome (i := .enable p mask) (by simp)
    .enable (.enable p) rfl rfl may (enable_done_iff s mask) (fun _ => enable_refused_iff)
  have cleared := fun (may : s.MayRequest p .clear) => returnCommand_outcome (i := .clear p mask) (by simp)
    .clear (.clear p) rfl rfl may (clear_done_iff s mask) (fun _ => clear_refused_iff)
  refine ⟨fun h => ⟨fun may => ?_, fun may => ?_⟩, fun lawful => ⟨fun may => ?_, fun may => ?_⟩⟩
  · obtain ⟨t, answer, -, changed⟩ := enabled may fun d hd => (h d hd).1
    obtain ⟨records, reports, elsewhere⟩ := changed fun d hd => (h d hd).2
    refine ⟨t, answer, fun d => ?_, reports, elsewhere⟩
    rw [records]
    simp only [List.mem_filter, mem_allDistricts, true_and, Bool.and_eq_true, decide_eq_true_eq, HoldSet.isEmpty_iff,
      and_assoc]
    rfl
  · obtain ⟨t, answer, -, changed⟩ := cleared may fun d hd => (h d hd).1
    obtain ⟨records, reports, elsewhere⟩ := changed fun d hd => (h d hd).2
    refine ⟨t, answer, fun d => ?_, reports, elsewhere⟩
    rw [records]
    simp only [List.mem_filter, mem_allDistricts, true_and, Bool.and_eq_true, decide_eq_true_eq]
    rfl
  · obtain ⟨t, answer, returned, -⟩ := enabled may lawful
    exact ⟨t, returned, answer⟩
  · obtain ⟨t, answer, returned, -⟩ := cleared may lawful
    exact ⟨t, returned, answer⟩

end Sys2Proof.Machine
end

section
/-! # HOLD and DISABLE: a walk counter out of its range refutes O45 (R139, R141)

The statement asks for lawful district records only. R141's range of the walk counters is a law of the feed records
(`Feed.Lawful`), which it does not ask for: above 255 the model's counter goes on counting, where `State.walkOver` has
it roll over. -/

namespace Sys2Proof.Machine

/-- The soak of district 0, admitted by feed 0's walk at entry 0. -/
def lastSoak : SoakContext := { origin := .walk 0, n := 5, e := 0, cost := 400 }

/-- Feed 0 walks its last entry, district 0 being the last member in flight; the counter of completed walks is out of
its range. -/
def overcounted : State :=
  (State.reset.setDistrict 0 { resetDistrict .soaking with switch := .closed, soak := some lastSoak }).modFeed 0 (fun x =>
    { x with
      state := .walking, accepted := .healthy, debounce := none, pool := 400
      completed := { count := 300, rolled := false }
      walk := { x.walk with
        phase := .inEntry, kind := .chain, position := .entry 0, stepCount := 1
        inFlight := [{ district := 0, place := 0 }], entryAdmitted := true } })

/-- DISABLE of district 0 as the part does it: the walk ends COMPLETED and the counter goes on from 300. -/
theorem overcounted_counts_on {t : State} {reply : Reply}
    (h : exec (.disable .c 1) overcounted = .next (t.respond .c 0x21 reply)) :
    (t.feed 0).completed = { count := 301, rolled := false } := by
  have served : exec (.disable .c 1) overcounted =
      .next (overcounted.serve (.disable .c 1) (maskCommand .c .disable 1 disableRule)) := rfl
  rw [served, Host.Outcome.next.injEq] at h
  have counted : ((overcounted.serve (.disable .c 1) (maskCommand .c .disable 1 disableRule)).feed 0).completed =
      { count := 301, rolled := false } := by decide +kernel
  rwa [h, State.respond_feed] at counted

/-- District 0 has left its soak for OFF, and cost and slot are back. -/
def overcountedOff : State :=
  ((overcounted.modDistrict 0 (fun r => { r.switchedOff with holds := (overcounted.district 0).holds })).costReturned 0
    lastSoak).noticed 0 0 .aborted

/-- The walk's end in the words of the statement. -/
def overcountedOver : State :=
  ((((overcountedOff.entryReported 0).walkOver 0 .device .completed).withGranted 0 [] []).chainsSettled)

/-- From an empty queue nothing is granted. -/
theorem State.grantsAre_nil {s : State} {f : FeedId} (h : (s.feed f).queue = []) : s.GrantsAre f [] [] :=
  ⟨h, List.nodup_nil, by simp, by simp, by simp⟩

/-- Nothing waits in the queue of feed 0 when its walk has ended. -/
theorem overcounted_grants_none :
    ((overcountedOff.entryReported 0).walkOver 0 .device .completed).GrantsAre 0 [] [] ∧
      overcountedOver.GrantsAre 0 [] [] :=
  ⟨State.grantsAre_nil (by decide +kernel), State.grantsAre_nil (by decide +kernel)⟩

/-- DISABLE of district 0 in the words of the statement: the counter rolls over to 0. -/
theorem overcounted_rolls_over {t : State} (h : State.TakenOff .c 0x21 false [0] overcounted t) :
    (t.feed 0).completed = { count := 0, rolled := true } := by
  obtain ⟨u, goes, v, settles, rfl⟩ := h _ rfl
  obtain ⟨w, -, notified, feedSettles⟩ := (goes.2 (by decide +kernel) _ rfl).1 lastSoak (by decide +kernel) rfl
  have completes := ((notified (by decide)).2 (by decide +kernel) overcountedOff rfl).2 (.inr (by decide +kernel))
  obtain ⟨-, -, links⟩ := completes.2 (by decide +kernel) (by decide +kernel) 1
  obtain ⟨ends, -⟩ := links (by decide +kernel) (.inl (by decide +kernel))
  have ended : w = overcountedOver := ends (by decide +kernel) [] [] overcounted_grants_none.1
  subst ended
  have settled := feedSettles.1 (by decide +kernel) [] [] overcounted_grants_none.2
  subst settled
  rw [settles.1 (by decide +kernel)]
  decide +kernel

/-- Refutes O45: `overcounted` has lawful district records, and DISABLE of district 0 ends its feed's walk, whose counter
then stands at 301 and not at 0. -/
theorem not_holdAndDisableTakeToOff : ¬ Obligations.HoldAndDisableTakeToOff := by
  intro h
  obtain ⟨-, -, several⟩ := h.2 .c 1 overcounted
  obtain ⟨t, taken, ran⟩ := (several (by decide +kernel)).2 (by decide +kernel)
  have acting : (allDistricts.filter (fun d => overcounted.handles 1 d &&
      decide ((overcounted.district d).state ≠ .off))) = [0] := by decide +kernel
  rw [acting] at taken
  have rolled := overcounted_rolls_over taken
  rw [overcounted_counts_on ran] at rolled
  exact absurd rolled (by decide)

end Sys2Proof.Machine
end

section
/-! # What a copy of a district's settings leaves at the other districts (R79, R151, R152) -/

namespace Sys2Proof.Machine

/-! ## A copy changes settings and records only -/

theorem OnlyRecords.runGrantRule (s : State) (f : FeedId) : OnlyRecords s (s.runGrantRule f) :=
  (s.runGrantRule_grants f).records

theorem OnlyRecords.leaveFor (s : State) (f : FeedId) (d : DistrictId) (st : DState) :
    OnlyRecords s (s.leaveFor f d st) := by
  have left : OnlyRecords s (s.modDistrict d (fun r => r.enter st)) := .modDistrict s d _
  unfold State.leaveFor
  dsimp only
  split
  · exact left.trans ((OnlyRecords.modFeed _ f _).trans (.runGrantRule _ f))
  · exact left

theorem OnlyRecords.returnToService (s : State) (d : DistrictId) : OnlyRecords s (s.returnToService d) := by
  unfold State.returnToService
  split
  · exact (OnlyRecords.modDistrict s d _).trans ((OnlyRecords.modFeed _ _ _).trans (.runGrantRule _ _))
  · exact .modDistrict s d _

theorem OnlyRecords.changeFeedOrKind {s : State} {d : DistrictId} (old : FeedId)
    (hd : (s.district d).state.defersApply = false) : OnlyRecords s (s.changeFeedOrKind old d) := by
  have straight : OnlyRecords s (s.straightened d) := .modDistrict s d _
  rcases DState.of_not_defersApply hd with k | k | k
  · rw [State.changeFeedOrKind_of_off old k]
    exact straight
  · rw [State.changeFeedOrKind_of_latched old k]
    split
    · exact straight.trans (.modDistrict _ d _)
    · exact straight
  · rw [State.changeFeedOrKind_of_service old k]
    split
    · exact straight.trans (.leaveFor _ old d _)
    · exact straight.trans ((OnlyRecords.leaveFor _ old d _).trans (.returnToService _ d))

/-- A copy, once its set is installed, changes records only. -/
theorem OnlyRecords.copyDistrict {s : State} {d : DistrictId} (hd : (s.district d).state.defersApply = false) :
    OnlyRecords (s.setCopied d) (s.copyDistrict d) := by
  unfold State.copyDistrict
  dsimp only
  rw [State.installDistrict_eq_setCopied]
  split
  · split
    · exact .runGrantRule _ _
    · exact .refl _
  · exact .changeFeedOrKind _ (by rw [State.setCopied_state]; exact hd)

/-! ## Other districts than the queued ones stand by -/

theorem State.leaveFor_bystander {s : State} {d e : DistrictId} (he : e ≠ d) (hq : (s.district e).state ≠ .queued)
    (f : FeedId) (st : DState) : (s.leaveFor f d st).district e = s.district e := by
  have other := State.district_modDistrict_of_ne he s (fun r => r.enter st)
  unfold State.leaveFor
  dsimp only
  split
  · have same : ((s.modDistrict d (fun r => r.enter st)).leaveQueue f d).district e = s.district e := other
    rw [(State.runGrantRule_grants _ f).bystander (by rw [same]; exact hq), same]
  · exact other

theorem State.changeFeedOrKind_bystander {s : State} {d e : DistrictId} (he : e ≠ d)
    (hq : (s.district e).state ≠ .queued) (old : FeedId) (hd : (s.district d).state.defersApply = false) :
    (s.changeFeedOrKind old d).district e = s.district e := by
  have straight : (s.straightened d).district e = s.district e := State.district_modDistrict_of_ne he s _
  have hq' : ((s.straightened d).district e).state ≠ .queued := by rw [straight]; exact hq
  rcases DState.of_not_defersApply hd with k | k | k
  · rw [State.changeFeedOrKind_of_off old k, straight]
  · rw [State.changeFeedOrKind_of_latched old k]
    split
    · rw [State.district_modDistrict_of_ne he, straight]
    · exact straight
  · rw [State.changeFeedOrKind_of_service old k]
    have left := fun st => (State.leaveFor_bystander he hq' old st).trans straight
    split
    · exact left .off
    · rw [State.returnToService_bystander he (by rw [left]; exact hq), left]

theorem State.copyDistrict_bystander {s : State} {d e : DistrictId} (he : e ≠ d)
    (hq : (s.district e).state ≠ .queued) (hd : (s.district d).state.defersApply = false) :
    (s.copyDistrict d).district e = (s.setCopied d).district e := by
  have hq' : ((s.setCopied d).district e).state ≠ .queued := by rw [State.setCopied_state]; exact hq
  unfold State.copyDistrict
  dsimp only
  rw [State.installDistrict_eq_setCopied]
  split
  · split
    · exact (State.runGrantRule_grants _ _).bystander hq'
    · rfl
  · exact State.changeFeedOrKind_bystander he hq' _ (by rw [State.setCopied_state]; exact hd)

/-- A district that is not QUEUED, its feed and kind as before: its copy is made with no more ado (R151). -/
theorem State.copyDistrict_of_same {s : State} {d : DistrictId} (hq : (s.district d).state ≠ .queued)
    (hf : ((s.setCopied d).dset d).feed = (s.dset d).feed) (hk : ((s.setCopied d).dset d).kind = (s.dset d).kind) :
    s.copyDistrict d = s.setCopied d := by
  unfold State.copyDistrict
  dsimp only
  rw [State.installDistrict_eq_setCopied, if_pos ⟨hf, hk⟩, if_neg (by rw [State.setCopied_state]; exact hq)]

/-! ## Grace and deferral end with a changed guardian (R79, R151) -/

/-- From `r` to `r'` at most grace and deferral are cleared, and they are where the guardian has changed. -/
def District.Loosens (changed : Prop) (r r' : District) : Prop :=
  ∃ grace deferral, r' = { r with grace := grace, deferral := deferral } ∧
    (grace = r.grace ∧ deferral = r.deferral ∨ grace = false ∧ deferral = none) ∧
    (changed → grace = false ∧ deferral = none)

theorem District.Loosens.of_eq {changed : Prop} {r r' : District} (h : r' = r) (hc : ¬changed) : r.Loosens changed r' :=
  ⟨r.grace, r.deferral, h, .inl ⟨rfl, rfl⟩, fun k => absurd k hc⟩

theorem District.Loosens.trans {c c' c'' : Prop} {r r' r'' : District} (h : r.Loosens c r') (k : r'.Loosens c' r'')
    (hc : c'' → c ∨ c') : r.Loosens c'' r'' := by
  obtain ⟨g, df, rfl, h1, h2⟩ := h
  obtain ⟨g', df', rfl, k1, k2⟩ := k
  refine ⟨g', df', rfl, ?_, fun k => ?_⟩
  · rcases k1 with ⟨e1, e2⟩ | k1
    · exact e1 ▸ e2 ▸ h1
    · exact .inr k1
  · rcases hc k with k | k
    · rcases k1 with ⟨e1, e2⟩ | k1
      · exact e1 ▸ e2 ▸ h2 k
      · exact k1
    · exact k2 k

theorem District.Loosens.state {c : Prop} {r r' : District} (h : r.Loosens c r') : r'.state = r.state := by
  obtain ⟨_, _, rfl, -⟩ := h; rfl

theorem District.Loosens.applyDeferred {c : Prop} {r r' : District} (h : r.Loosens c r') :
    r'.applyDeferred = r.applyDeferred := by
  obtain ⟨_, _, rfl, -⟩ := h; rfl

/-- What an installed set does to a record: the retry count of its own district is brought to R (R21), and a changed
guardian ends grace and deferral. -/
theorem State.setCopied_loosens (s : State) (d e : DistrictId) :
    ({ s.district e with
        retry := if e = d then min (s.district e).retry (s.pendingImage.district d).r else (s.district e).retry } :
      District).Loosens ((s.setCopied d).activeImage.guardianOf e ≠ s.activeImage.guardianOf e)
      ((s.setCopied d).district e) := by
  refine ⟨_, _, s.setCopied_district d e, ?_, fun k => ?_⟩
  · by_cases h : (s.activeImage.withDistrict d (s.pendingImage.district d)).guardianOf e = s.activeImage.guardianOf e
    · exact .inl ⟨by simp [h], if_pos h⟩
    · exact .inr ⟨by simp [h], if_neg h⟩
  · rw [State.setCopied_activeImage] at k
    exact ⟨by simp [k], if_neg k⟩

/-- A copy loosens another district that is not QUEUED, and no more. -/
theorem State.copyDistrict_loosens {s : State} {d e : DistrictId} (he : e ≠ d)
    (hq : (s.district e).state ≠ .queued) (hd : (s.district d).state.defersApply = false) :
    (s.district e).Loosens ((s.copyDistrict d).activeImage.guardianOf e ≠ s.activeImage.guardianOf e)
      ((s.copyDistrict d).district e) := by
  rw [State.copyDistrict_bystander he hq hd, (OnlyRecords.copyDistrict hd).activeImage]
  have loosens := s.setCopied_loosens d e
  rwa [if_neg he] at loosens

end Sys2Proof.Machine
end

section
/-! # APPLY, district by district (R148 to R152) -/

namespace Sys2Proof.Machine

/-! ## One district's turn -/

/-- The corrected set depends on the kinds of the others and on the partners of the lower ones (R149). -/
theorem DistrictSet.corrected_congr {ds : DistrictSet} {v w : DistrictId → DistrictSet} {d : DistrictId}
    (hk : ∀ x, x ≠ d → (v x).kind = (w x).kind) (hp : ∀ x, x < d → (v x).partner = (w x).partner) :
    ds.corrected v d = ds.corrected w d := by
  have lower : ∀ p x, (x < d ∧ (v x).kind = .reversing ∧ (v x).partner = some p) ↔
      (x < d ∧ (w x).kind = .reversing ∧ (w x).partner = some p) := fun p x =>
    and_congr_right fun h => by rw [hk x (ne_of_lt h), hp x h]
  have falls : ds.PartnerFalls v d ↔ ds.PartnerFalls w d := by
    refine and_congr_right fun _ => exists_congr fun p => and_congr_right fun _ => ?_
    by_cases hd : p = d
    · simp only [hd, true_or]
    · rw [hk p hd, exists_congr (lower p)]
  unfold DistrictSet.corrected
  simp only [falls]

/-- A correction puts T above H and L above T (R149). -/
theorem DistrictSet.corrected_ordered (ds : DistrictSet) (v : DistrictId → DistrictSet) (d : DistrictId) :
    (ds.corrected v d).Ordered := by
  have ht : ds.h < ds.correctedT := by unfold DistrictSet.correctedT; split <;> omega
  have hl : ds.correctedT < ds.correctedL := by unfold DistrictSet.correctedL; split <;> omega
  exact ⟨ht, hl⟩

section
variable (p : Port) (mask : Half) (t : ApplyTally) (d : DistrictId)

/-- District `d`'s pending set as APPLY corrects it. -/
def ApplyTally.correctedSet : DistrictSet :=
  (t.state.pendingImage.district d).corrected (t.state.correctionView mask) d

/-- District `d` soaks or swaps, so its copy waits (R150). -/
def ApplyTally.defers : Bool := (t.state.district d).state.defersApply

/-- The state with district `d`'s pending set corrected. -/
def ApplyTally.correctedState : State := t.state.correct mask (.port p) d

theorem ApplyTally.correctedState_district (e : DistrictId) :
    (t.correctedState p mask d).district e = t.state.district e := State.correct_district _ _ _ _ _

theorem ApplyTally.district_state :
    (t.district p mask d).state =
      if t.defers d = true then (t.correctedState p mask d).modDistrict d (fun r => { r with applyDeferred := true })
      else (t.correctedState p mask d).copyDistrict d := by
  unfold ApplyTally.district ApplyTally.defers
  dsimp only
  rw [State.correct_district]
  split <;> rfl

theorem ApplyTally.district_deferred :
    (t.district p mask d).deferred = if t.defers d = true then t.deferred ++ [d] else t.deferred := by
  unfold ApplyTally.district ApplyTally.defers
  dsimp only
  rw [State.correct_district]
  split <;> rfl

theorem ApplyTally.district_copied :
    (t.district p mask d).copied = if t.defers d = true then t.copied else t.copied ++ [d] := by
  unfold ApplyTally.district ApplyTally.defers
  dsimp only
  rw [State.correct_district]
  split <;> rfl

theorem ApplyTally.district_corrected :
    (t.district p mask d).corrected =
      if t.correctedSet mask d = t.state.pendingImage.district d then t.corrected else t.corrected ++ [d] := by
  have any := t.state.correction_any mask d
  rw [State.correction_set] at any
  unfold ApplyTally.district ApplyTally.correctedSet
  dsimp only
  rw [any]
  by_cases h : (t.state.pendingImage.district d).corrected (t.state.correctionView mask) d =
      t.state.pendingImage.district d
  · split <;> simp [h]
  · split <;> simp [h]

/-- Where nothing is deferred the copy runs on a district that does not soak or swap. -/
theorem ApplyTally.not_defers (h : ¬t.defers d = true) :
    ((t.correctedState p mask d).district d).state.defersApply = false := by
  rw [ApplyTally.correctedState_district]
  simpa [ApplyTally.defers] using h

/-- What follows the correction of a district changes its active set, if it is copied, and records. -/
theorem ApplyTally.district_records :
    OnlyRecords (if t.defers d = true then t.correctedState p mask d else (t.correctedState p mask d).setCopied d)
      (t.district p mask d).state := by
  rw [ApplyTally.district_state]
  split
  · exact .modDistrict _ d _
  · exact .copyDistrict (t.not_defers p mask d ‹_›)

theorem ApplyTally.district_pendingImage :
    (t.district p mask d).state.pendingImage = t.state.pendingImage.withDistrict d (t.correctedSet mask d) := by
  have corrected := t.state.correct_pendingImage mask (.port p) d
  rw [State.correction_set] at corrected
  rw [(t.district_records p mask d).pendingImage]
  split <;> exact corrected

theorem ApplyTally.district_activeImage :
    (t.district p mask d).state.activeImage =
      if t.defers d = true then t.state.activeImage
      else t.state.activeImage.withDistrict d (t.correctedSet mask d) := by
  obtain ⟨-, -, active, -⟩ := t.state.correct_frame mask (.port p) d
  have corrected := t.state.correct_pendingImage mask (.port p) d
  rw [State.correction_set] at corrected
  rw [(t.district_records p mask d).activeImage]
  split
  · exact active
  · rw [State.setCopied_activeImage, ApplyTally.correctedState, active, corrected, Image.district_withDistrict, if_pos rfl]
    rfl

theorem ApplyTally.district_now : (t.district p mask d).state.now = t.state.now := by
  obtain ⟨-, -, -, -, -, now, -⟩ := t.state.correct_frame mask (.port p) d
  rw [(t.district_records p mask d).now]
  split <;> exact now

/-- The events of a district's turn: that of its correction, where there is one (R149). -/
theorem ApplyTally.district_reports :
    (t.district p mask d).state.ReportsLike
      (if t.correctedSet mask d = t.state.pendingImage.district d then t.state
        else t.state.post (correctedEvent d (.port p) (t.state.pendingImage.district d) (t.correctedSet mask d))) := by
  have records := t.district_records p mask d
  have posted : (t.correctedState p mask d).ReportsLike
      (if t.correctedSet mask d = t.state.pendingImage.district d then t.state
        else t.state.post (correctedEvent d (.port p) (t.state.pendingImage.district d) (t.correctedSet mask d))) := by
    rw [ApplyTally.correctedState, State.correct_eq]
    unfold ApplyTally.correctedSet
    split <;> exact ⟨rfl, rfl⟩
  obtain ⟨ring, ports⟩ := posted
  refine ⟨?_, ?_⟩
  · rw [records.ring, ← ring]; split <;> rfl
  · rw [records.ports, ← ports]; split <;> rfl

theorem ApplyTally.district_pending (e : DistrictId) :
    (t.district p mask d).state.pendingImage.district e =
      if e = d then t.correctedSet mask d else t.state.pendingImage.district e := by
  rw [ApplyTally.district_pendingImage, Image.district_withDistrict]

theorem ApplyTally.district_dset (e : DistrictId) :
    (t.district p mask d).state.dset e =
      if e = d ∧ t.defers d = false then t.correctedSet mask d else t.state.dset e := by
  unfold State.dset
  rw [ApplyTally.district_activeImage]
  by_cases h : t.defers d = true
  · simp [h]
  · simp [h, Image.district_withDistrict]

/-! ### The records -/

/-- Another district that is not QUEUED loses grace and deferral at most. -/
theorem ApplyTally.district_loosens {e : DistrictId} (he : e ≠ d) (hq : (t.state.district e).state ≠ .queued) :
    (t.state.district e).Loosens
      ((t.district p mask d).state.activeImage.guardianOf e ≠ t.state.activeImage.guardianOf e)
      ((t.district p mask d).state.district e) := by
  have record := t.correctedState_district p mask d e
  obtain ⟨-, -, active, -⟩ := t.state.correct_frame mask (.port p) d
  by_cases h : t.defers d = true
  · refine .of_eq ?_ (by rw [ApplyTally.district_activeImage, if_pos h]; simp)
    rw [ApplyTally.district_state, if_pos h, State.district_modDistrict_of_ne he, record]
  · have loosens := State.copyDistrict_loosens he (by rw [record]; exact hq) (t.not_defers p mask d h)
    have image : (t.correctedState p mask d).activeImage = t.state.activeImage := active
    rw [record, image] at loosens
    rwa [ApplyTally.district_state, if_neg h]

/-- A district whose copy waits has that noted, and no more (R150). -/
theorem ApplyTally.district_of_defers (h : t.defers d = true) :
    (t.district p mask d).state.district d = { t.state.district d with applyDeferred := true } := by
  rw [ApplyTally.district_state, if_pos h, State.district_modDistrict_same, ApplyTally.correctedState_district]

/-- A district that is copied, is not QUEUED, and keeps feed and kind (R21, R79, R151). -/
theorem ApplyTally.district_of_same (h : t.defers d = false) (hq : (t.state.district d).state ≠ .queued)
    (hf : (t.correctedSet mask d).feed = (t.state.dset d).feed)
    (hk : (t.correctedSet mask d).kind = (t.state.dset d).kind) :
    ({ t.state.district d with retry := min (t.state.district d).retry (t.correctedSet mask d).r } : District).Loosens
      ((t.district p mask d).state.activeImage.guardianOf d ≠ t.state.activeImage.guardianOf d)
      ((t.district p mask d).state.district d) := by
  have record := t.correctedState_district p mask d d
  obtain ⟨-, -, active, -⟩ := t.state.correct_frame mask (.port p) d
  have image : (t.correctedState p mask d).activeImage = t.state.activeImage := active
  have set : (t.correctedState p mask d).pendingImage.district d = t.correctedSet mask d := by
    rw [ApplyTally.correctedState, State.correct_pendingImage, State.correction_set, Image.district_withDistrict,
      if_pos rfl]
    rfl
  have before : (t.correctedState p mask d).dset d = t.state.dset d := by unfold State.dset; rw [image]
  have after : ((t.correctedState p mask d).setCopied d).dset d = t.correctedSet mask d := by
    rw [State.setCopied_dset, if_pos rfl, set]
  have copied : (t.correctedState p mask d).copyDistrict d = (t.correctedState p mask d).setCopied d :=
    State.copyDistrict_of_same (by rw [record]; exact hq) (by rw [after, before]; exact hf)
      (by rw [after, before]; exact hk)
  have loosens := (t.correctedState p mask d).setCopied_loosens d d
  rw [if_pos rfl, record, set, image] at loosens
  rwa [ApplyTally.district_state, if_neg (by simp [h]), copied]

end

/-! ## The named districts one after the other: the pending sets and their events -/

/-- A list grown at its end keeps a filter where the test at its members stands. -/
theorem filter_snoc {α : Type} {l : List α} {a : α} {f g : α → Bool} (h : ∀ x ∈ l, g x = f x) :
    (l ++ [a]).filter g = l.filter f ++ if g a = true then [a] else [] := by
  rw [List.filter_append, List.filter_congr h]
  by_cases ha : g a = true <;> simp [ha]

/-- The named districts of `l` have been corrected in turn, `t` being the tally after it. -/
structure Corrected (p : Port) (mask : Half) (s : State) (l : List DistrictId) (t : ApplyTally) : Prop where
  now : t.state.now = s.now
  pending : ∀ d, t.state.pendingImage.district d =
    if d ∈ l then (s.pendingImage.district d).corrected (t.state.correctionView mask) d else s.pendingImage.district d
  feeds : t.state.pendingImage.feeds = s.pendingImage.feeds
  chains : t.state.pendingImage.chains = s.pendingImage.chains
  corrected : t.corrected =
    l.filter (fun d => decide (t.state.pendingImage.district d ≠ s.pendingImage.district d))
  reports : t.state.ReportsLike (t.corrected.foldl (fun u d => u.post
    (correctedEvent d (.port p) (s.pendingImage.district d) (t.state.pendingImage.district d))) s)

theorem State.foldl_post_now (ev : DistrictId → Event) (ds : List DistrictId) (s : State) :
    (ds.foldl (fun u d => u.post (ev d)) s).now = s.now := by
  induction ds generalizing s with
  | nil => rfl
  | cons d ds ih => rw [List.foldl_cons, ih]; rfl

/-- Events told by what stands at the members of the list. -/
theorem State.foldl_post_congr {ev ev' : DistrictId → Event} {ds : List DistrictId} (h : ∀ d ∈ ds, ev d = ev' d)
    (s : State) : ds.foldl (fun u d => u.post (ev d)) s = ds.foldl (fun u d => u.post (ev' d)) s := by
  induction ds generalizing s with
  | nil => rfl
  | cons d ds ih =>
    rw [List.foldl_cons, List.foldl_cons, h d (by simp)]
    exact ih (fun e he => h e (by simp [he])) _

/-- The sets that a correction reads are the same after a district's turn, but for the T, L and partner of its own. -/
theorem ApplyTally.district_view (p : Port) {mask : Half} (t : ApplyTally) {d : DistrictId}
    (hd : mask.getLsbD d.val = true) :
    (∀ x, ((t.district p mask d).state.correctionView mask x).kind = (t.state.correctionView mask x).kind) ∧
      ∀ x, x ≠ d → (t.district p mask d).state.correctionView mask x = t.state.correctionView mask x := by
  have others : ∀ x, x ≠ d → (t.district p mask d).state.correctionView mask x = t.state.correctionView mask x :=
    fun x hx => by
      have active := t.district_dset p mask d x
      rw [if_neg (fun k => hx k.1)] at active
      unfold State.dset at active
      unfold State.correctionView
      rw [ApplyTally.district_pending, if_neg hx, active]
  refine ⟨fun x => ?_, others⟩
  by_cases hx : x = d
  · subst hx
    unfold State.correctionView
    rw [if_pos hd, if_pos hd, ApplyTally.district_pending, if_pos rfl]
    rfl
  · rw [others x hx]

theorem Corrected.snoc {p : Port} {mask : Half} {s : State} {l : List DistrictId} {t : ApplyTally} {d : DistrictId}
    (h : Corrected p mask s l t) (hl : ∀ e ∈ l, e < d) (hd : mask.getLsbD d.val = true) :
    Corrected p mask s (l ++ [d]) (t.district p mask d) := by
  have fresh : d ∉ l := fun k => lt_irrefl d (hl d k)
  obtain ⟨kinds, views⟩ := t.district_view p hd
  have stand : ∀ (ds : DistrictSet) (e : DistrictId), e ≤ d →
      ds.corrected (t.state.correctionView mask) e =
        ds.corrected ((t.district p mask d).state.correctionView mask) e := fun ds e he =>
    DistrictSet.corrected_congr (fun x _ => (kinds x).symm)
      (fun x hx => by rw [views x (ne_of_lt (lt_of_lt_of_le hx he))])
  have before : t.state.pendingImage.district d = s.pendingImage.district d := by rw [h.pending, if_neg fresh]
  have others : ∀ e ∈ l, (t.district p mask d).state.pendingImage.district e = t.state.pendingImage.district e :=
    fun e he => by rw [ApplyTally.district_pending, if_neg (by rintro rfl; exact fresh he)]
  have own : (t.district p mask d).state.pendingImage.district d = t.correctedSet mask d := by
    rw [ApplyTally.district_pending, if_pos rfl]
  have corrected : (t.district p mask d).corrected = (l ++ [d]).filter (fun e =>
      decide ((t.district p mask d).state.pendingImage.district e ≠ s.pendingImage.district e)) := by
    rw [filter_snoc (f := fun e => decide (t.state.pendingImage.district e ≠ s.pendingImage.district e))
      (fun e he => by rw [others e he]), ← h.corrected, ApplyTally.district_corrected, own, before]
    by_cases hc : t.correctedSet mask d = s.pendingImage.district d <;> simp [hc]
  refine ⟨(t.district_now p mask d).trans h.now, fun e => ?_, ?_, ?_, corrected, ?_⟩
  · rw [ApplyTally.district_pending]
    by_cases he : e = d
    · subst he
      rw [if_pos rfl, if_pos (by simp), ApplyTally.correctedSet, before, stand _ _ (le_refl e)]
    · rw [if_neg he, h.pending]
      by_cases hm : e ∈ l
      · rw [if_pos hm, if_pos (by simp [hm]), stand _ _ (le_of_lt (hl e hm))]
      · rw [if_neg hm, if_neg (by simp [hm, he])]
  · rw [ApplyTally.district_pendingImage]; exact h.feeds
  · rw [ApplyTally.district_pendingImage]; exact h.chains
  · obtain ⟨ring, ports⟩ := h.reports
    have same : ∀ e ∈ t.corrected, correctedEvent e (.port p) (s.pendingImage.district e)
        (t.state.pendingImage.district e) = correctedEvent e (.port p) (s.pendingImage.district e)
        ((t.district p mask d).state.pendingImage.district e) := fun e he => by
      rw [h.corrected, List.mem_filter] at he
      rw [others e he.1]
    have reports := t.district_reports p mask d
    rw [ApplyTally.district_corrected]
    rw [State.foldl_post_congr same s] at ring ports
    split at reports
    · rw [if_pos ‹_›]
      exact ⟨reports.1.trans ring, reports.2.trans ports⟩
    · rw [if_neg ‹_›, List.foldl_append, List.foldl_cons, List.foldl_nil, own, ← before]
      have posted := State.ReportsLike.post ⟨ring, ports⟩
        (h.now.trans (State.foldl_post_now (fun e => correctedEvent e (.port p) (s.pendingImage.district e)
          ((t.district p mask d).state.pendingImage.district e)) _ s).symm)
        (correctedEvent d (.port p) (t.state.pendingImage.district d) (t.correctedSet mask d))
      exact ⟨reports.1.trans posted.1, reports.2.trans posted.2⟩

end Sys2Proof.Machine
end

section
/-! # APPLY: the copies and the records, the feeds, and the whole command (R148 to R153) -/

namespace Sys2Proof.Machine

/-! ## The named districts one after the other: what works and what waits -/

/-- The named districts of `l` have been copied or deferred in turn, `t` being the tally after it. -/
structure Installed (s : State) (l : List DistrictId) (t : ApplyTally) : Prop where
  active : ∀ d, t.state.dset d =
    if d ∈ l ∧ d ∉ t.deferred then t.state.pendingImage.district d else s.dset d
  feeds : t.state.activeImage.feeds = s.activeImage.feeds
  chains : t.state.activeImage.chains = s.activeImage.chains
  among : ∀ d ∈ t.deferred, d ∈ l
  copied : ∀ d, d ∈ t.copied ↔ d ∈ l ∧ d ∉ t.deferred

theorem ApplyTally.mem_district_deferred (p : Port) (mask : Half) (t : ApplyTally) (d e : DistrictId) :
    e ∈ (t.district p mask d).deferred ↔ e ∈ t.deferred ∨ e = d ∧ t.defers d = true := by
  rw [ApplyTally.district_deferred]
  split <;> simp [*]

theorem ApplyTally.mem_district_copied (p : Port) (mask : Half) (t : ApplyTally) (d e : DistrictId) :
    e ∈ (t.district p mask d).copied ↔ e ∈ t.copied ∨ e = d ∧ t.defers d = false := by
  rw [ApplyTally.district_copied]
  split <;> simp_all

theorem Installed.snoc {p : Port} {mask : Half} {s : State} {l : List DistrictId} {t : ApplyTally} {d : DistrictId}
    (h : Installed s l t) (fresh : d ∉ l) : Installed s (l ++ [d]) (t.district p mask d) := by
  have waits : d ∉ t.deferred := fun k => fresh (h.among d k)
  refine ⟨fun e => ?_, ?_, ?_, fun e he => ?_, fun e => ?_⟩
  · simp only [ApplyTally.district_dset, ApplyTally.district_pending, ApplyTally.mem_district_deferred, List.mem_append,
      List.mem_singleton]
    by_cases he : e = d
    · subst he
      cases hd : t.defers e
      · simp [waits]
      · simp [h.active, fresh]
    · simp only [he, false_and, or_false, if_false]
      exact h.active e
  · rw [ApplyTally.district_activeImage]; split <;> exact h.feeds
  · rw [ApplyTally.district_activeImage]; split <;> exact h.chains
  · rw [ApplyTally.mem_district_deferred] at he
    rcases he with he | ⟨rfl, -⟩
    · simp [h.among e he]
    · simp
  · rw [ApplyTally.mem_district_copied, ApplyTally.mem_district_deferred, h.copied]
    by_cases he : e = d
    · subst he; simp [fresh, waits]
    · simp [he]

/-- The records of the districts that are not QUEUED while APPLY goes over the named districts of `l`. -/
structure StoodBy (s : State) (l : List DistrictId) (t : ApplyTally) : Prop where
  marked : ∀ d ∈ t.deferred, (t.state.district d).applyDeferred = true ∧ (t.state.district d).state ≠ .queued
  busy : ∀ d ∈ l, (s.district d).state.defersApply = true → d ∈ t.deferred
  waiting : ∀ d, d ∉ l → (s.district d).state ≠ .queued →
    (s.district d).Loosens (t.state.activeImage.guardianOf d ≠ s.activeImage.guardianOf d) (t.state.district d)
  settled : ∀ d ∈ l, (s.district d).state.defersApply = false → (s.district d).state ≠ .queued → d ∉ t.deferred ∧
    ((t.state.dset d).feed = (s.dset d).feed → (t.state.dset d).kind = (s.dset d).kind →
      ({ s.district d with retry := min (s.district d).retry (t.state.dset d).r } : District).Loosens
        (t.state.activeImage.guardianOf d ≠ s.activeImage.guardianOf d) (t.state.district d))

theorem StoodBy.snoc {p : Port} {mask : Half} {s : State} {l : List DistrictId} {t : ApplyTally} {d : DistrictId}
    (h : StoodBy s l t) (installed : Installed s l t) (fresh : d ∉ l) :
    StoodBy s (l ++ [d]) (t.district p mask d) := by
  have waits : d ∉ t.deferred := fun k => fresh (installed.among d k)
  have guardian : ∀ {e : DistrictId} {a b c : Image}, a.guardianOf e ≠ c.guardianOf e →
      b.guardianOf e ≠ c.guardianOf e ∨ a.guardianOf e ≠ b.guardianOf e := fun {e a b c} k => by
    by_cases hb : b.guardianOf e = c.guardianOf e
    · exact .inr (hb ▸ k)
    · exact .inl hb
  refine ⟨fun e he => ?_, fun e he hs => ?_, fun e he hq => ?_, fun e he hs hq => ?_⟩
  · rw [ApplyTally.mem_district_deferred] at he
    rcases he with he | ⟨rfl, hd⟩
    · obtain ⟨flag, state⟩ := h.marked e he
      have loosens := t.district_loosens p mask d (fun k => waits (k ▸ he)) state
      rw [loosens.applyDeferred, loosens.state]
      exact ⟨flag, state⟩
    · rw [t.district_of_defers p mask e hd]
      refine ⟨rfl, fun k => ?_⟩
      have k' : (t.state.district e).state = .queued := k
      simp [ApplyTally.defers, k', DState.defersApply] at hd
  · rw [ApplyTally.mem_district_deferred]
    rcases List.mem_append.1 he with he | he
    · exact .inl (h.busy e he hs)
    · rw [List.mem_singleton] at he
      subst he
      have state := (h.waiting e fresh (fun k => by simp [k, DState.defersApply] at hs)).state
      exact .inr ⟨rfl, by rw [ApplyTally.defers, state]; exact hs⟩
  · simp only [List.mem_append, List.mem_singleton, not_or] at he
    have before := h.waiting e he.1 hq
    exact before.trans (t.district_loosens p mask d he.2 (by rw [before.state]; exact hq)) guardian
  · rw [ApplyTally.mem_district_deferred]
    rcases List.mem_append.1 he with he | he
    · obtain ⟨notDeferred, same⟩ := h.settled e he hs hq
      have ne : e ≠ d := fun k => fresh (k ▸ he)
      have set := t.district_dset p mask d e
      rw [if_neg (fun k => ne k.1)] at set
      refine ⟨by simp [notDeferred, ne], fun hf hk => ?_⟩
      rw [set] at hf hk ⊢
      have before := same hf hk
      exact before.trans (t.district_loosens p mask d ne (by rw [before.state]; exact hq)) guardian
    · rw [List.mem_singleton] at he
      subst he
      have before := h.waiting e fresh hq
      have defers : t.defers e = false := by rw [ApplyTally.defers, before.state]; exact hs
      have set := t.district_dset p mask e e
      rw [if_pos ⟨rfl, defers⟩] at set
      have old : t.state.dset e = s.dset e := by rw [installed.active, if_neg (fun k => fresh k.1)]
      refine ⟨by simp [waits, defers], fun hf hk => ?_⟩
      rw [set] at hf hk ⊢
      have after := t.district_of_same p mask e defers (by rw [before.state]; exact hq) (by rw [old]; exact hf)
        (by rw [old]; exact hk)
      obtain ⟨grace, deferral, record, cleared, changed⟩ := before
      refine District.Loosens.trans (c := t.state.activeImage.guardianOf e ≠ s.activeImage.guardianOf e)
        (r' := { t.state.district e with retry := min (t.state.district e).retry (t.correctedSet mask e).r }) ?_ after
        guardian
      exact ⟨grace, deferral, by rw [record], cleared, changed⟩

/-- What APPLY has done when it has gone over the named districts. -/
theorem applyDistricts_outcome (p : Port) (mask : Half) (t₀ : ApplyTally) (h₀ : t₀.deferred = [] ∧ t₀.copied = [] ∧
    t₀.corrected = []) (l : List DistrictId) (sorted : l.Pairwise (· < ·)) (named : ∀ d ∈ l, mask.getLsbD d.val = true) :
    Corrected p mask t₀.state l (l.foldl (ApplyTally.district p mask) t₀) ∧
      Installed t₀.state l (l.foldl (ApplyTally.district p mask) t₀) ∧
      StoodBy t₀.state l (l.foldl (ApplyTally.district p mask) t₀) := by
  obtain ⟨hd, hc, hr⟩ := h₀
  induction l using List.reverseRecOn with
  | nil =>
    refine ⟨⟨rfl, by simp, rfl, rfl, by simp [hr], by simp [hr, State.ReportsLike]⟩,
      ⟨by simp, rfl, rfl, by simp [hd], by simp [hc]⟩, ⟨by simp [hd], by simp, fun d _ _ => ?_, by simp⟩⟩
    exact .of_eq rfl (by simp)
  | append_singleton l d ih =>
    rw [List.pairwise_append] at sorted
    obtain ⟨sorted, -, below⟩ := sorted
    have lower : ∀ e ∈ l, e < d := fun e he => below e he d (by simp)
    have fresh : d ∉ l := fun k => lt_irrefl d (lower d k)
    obtain ⟨corrected, installed, stood⟩ := ih sorted fun e he => named e (by simp [he])
    rw [List.foldl_append, List.foldl_cons, List.foldl_nil]
    exact ⟨corrected.snoc lower (named d (by simp)), installed.snoc fresh, stood.snoc installed fresh⟩

theorem namedDistricts_sorted (mask : Half) : (namedDistricts mask).Pairwise (· < ·) :=
  List.Pairwise.filter _ (by decide : allDistricts.Pairwise (· < ·))

/-! ## The named feeds one after the other (R115, R153) -/

/-- The named feeds of `l` have been copied or deferred in turn, from the tally `t₀` to `t`. -/
structure FeedsApplied (t₀ : ApplyTally) (l : List FeedId) (t : ApplyTally) : Prop where
  pendingImage : t.state.pendingImage = t₀.state.pendingImage
  districtSets : t.state.activeImage.districts = t₀.state.activeImage.districts
  chains : t.state.activeImage.chains = t₀.state.activeImage.chains
  reports : t.state.ReportsLike t₀.state
  now : t.state.now = t₀.state.now
  tallies : t.copied = t₀.copied ∧ t.deferred = t₀.deferred ∧ t.corrected = t₀.corrected
  bystander : ∀ d, (t₀.state.district d).state ≠ .queued → t.state.district d = t₀.state.district d
  sets : ∀ f, t.state.fset f = if f ∈ t.feedsCopied then t₀.state.pendingImage.feed f else t₀.state.fset f
  copied : ∀ f, f ∈ t.feedsCopied ↔ f ∈ l ∧ f ∉ t.feedsDeferred
  among : ∀ f ∈ t.feedsDeferred, f ∈ l

theorem FeedsApplied.snoc {t₀ t : ApplyTally} {l : List FeedId} {f : FeedId} (h : FeedsApplied t₀ l t)
    (fresh : f ∉ l) : FeedsApplied t₀ (l ++ [f]) (t.feed f) := by
  have waits : f ∉ t.feedsDeferred := fun k => fresh (h.among f k)
  have new : f ∉ t.feedsCopied := fun k => fresh ((h.copied f).1 k).1
  obtain ⟨ring, ports⟩ := h.reports
  unfold ApplyTally.feed
  split
  · have records := OnlyRecords.runGrantRule (t.state.installFeed f) f
    refine ⟨records.pendingImage.trans h.pendingImage, ?_, ?_, ⟨records.ring.trans ring, records.ports.trans ports⟩,
      records.now.trans h.now, h.tallies, fun d hq => ?_, fun g => ?_, fun g => ?_, fun g hg => ?_⟩
    · exact (congrArg Image.districts records.activeImage).trans h.districtSets
    · exact (congrArg Image.chains records.activeImage).trans h.chains
    · have same := h.bystander d hq
      have installed : (t.state.installFeed f).district d = t.state.district d := rfl
      rw [State.copyFeed, ((t.state.installFeed f).runGrantRule_grants f).bystander (by rw [installed, same]; exact hq),
        installed, same]
    · rw [State.copyFeed, records.fset]
      have set : (t.state.installFeed f).fset g = if g = f then t.state.pendingImage.feed f else t.state.fset g :=
        Image.feed_withFeed _ _ _ _
      rw [set, h.pendingImage, h.sets]
      by_cases hg : g = f
      · subst hg; simp
      · simp [hg]
    · by_cases hg : g = f
      · subst hg; simp [waits]
      · simp [hg, h.copied]
    · simp [h.among g hg]
  · refine ⟨h.pendingImage, h.districtSets, h.chains, ⟨ring, ports⟩, h.now, h.tallies, h.bystander, h.sets, fun g => ?_,
      fun g hg => ?_⟩
    · by_cases hg : g = f
      · subst hg; simp [new]
      · simp [hg, h.copied]
    · rcases List.mem_append.1 hg with k | k
      · simp [h.among g k]
      · simpa using Or.inr (List.mem_singleton.1 k)

theorem applyFeeds_outcome (t₀ : ApplyTally) (h₀ : t₀.feedsCopied = [] ∧ t₀.feedsDeferred = []) (l : List FeedId)
    (nodup : l.Nodup) : FeedsApplied t₀ l (l.foldl ApplyTally.feed t₀) := by
  obtain ⟨hc, hd⟩ := h₀
  induction l using List.reverseRecOn with
  | nil =>
    exact ⟨rfl, rfl, rfl, ⟨rfl, rfl⟩, rfl, ⟨rfl, rfl, rfl⟩, fun _ _ => rfl, by simp [hc], by simp [hc], by simp [hd]⟩
  | append_singleton l f ih =>
    rw [List.nodup_append] at nodup
    obtain ⟨nodup, -, apart⟩ := nodup
    rw [List.foldl_append, List.foldl_cons, List.foldl_nil]
    exact (ih nodup).snoc fun k => apart f k f (by simp) rfl

/-! ## The byte that answers for the feeds -/

theorem Byte.eq_feedBits {feeds : Byte} (h : feeds.toNat ≤ 15) :
    feeds = byteOf (bit (feeds.getLsbD 0) + 2 * bit (feeds.getLsbD 1) + 4 * bit (feeds.getLsbD 2) +
      8 * bit (feeds.getLsbD 3)) := by
  have bits : ∀ n : Fin 16, byteOf n.val = byteOf (bit ((byteOf n.val).getLsbD 0) + 2 * bit ((byteOf n.val).getLsbD 1) +
      4 * bit ((byteOf n.val).getLsbD 2) + 8 * bit ((byteOf n.val).getLsbD 3)) := by decide
  have number : byteOf feeds.toNat = feeds := BitVec.eq_of_toNat_eq (by simp [byteOf])
  simpa only [number] using bits ⟨feeds.toNat, by omega⟩

/-- Two feed masks in one byte, bit by bit. -/
theorem feedNibbles : ∀ c₀ c₁ c₂ c₃ d₀ d₁ d₂ d₃ : Bool, (c₀ && d₀) = false → (c₁ && d₁) = false → (c₂ && d₂) = false →
    (c₃ && d₃) = false →
    let b := byteOf (bit c₀ + 2 * bit c₁ + 4 * bit c₂ + 8 * bit c₃ + 16 * (bit d₀ + 2 * bit d₁ + 4 * bit d₂ + 8 * bit d₃))
    ((b &&& 0x0F) ||| (b >>> 4) =
      byteOf (bit (c₀ || d₀) + 2 * bit (c₁ || d₁) + 4 * bit (c₂ || d₂) + 8 * bit (c₃ || d₃))) ∧
      (b &&& 0x0F) &&& (b >>> 4) = 0 ∧ b.getLsbD 0 = c₀ ∧ b.getLsbD 1 = c₁ ∧ b.getLsbD 2 = c₂ ∧ b.getLsbD 3 = c₃ := by
  decide +kernel

theorem mem_namedFeeds (feeds : Byte) (f : FeedId) : f ∈ namedFeeds feeds ↔ feeds.getLsbD f.val = true := by
  have all : f ∈ allFeeds := by revert f; decide
  simp [namedFeeds, all]

/-- The feeds copied and the feeds deferred, in one byte, divide the feeds named. -/
theorem feedByte_divides {feeds : Byte} (hb : feeds.toNat ≤ 15) {copied deferred : List FeedId}
    (hc : ∀ f, f ∈ copied ↔ f ∈ namedFeeds feeds ∧ f ∉ deferred) (hd : ∀ f ∈ deferred, f ∈ namedFeeds feeds) {b : Byte}
    (h : b = byteOf (feedMask copied + 16 * feedMask deferred)) :
    (b &&& 0x0F) ||| (b >>> 4) = feeds ∧ (b &&& 0x0F) &&& (b >>> 4) = 0 ∧
      ∀ f : FeedId, b.getLsbD f.val = true ↔ f ∈ copied := by
  have apart : ∀ f, (copied.contains f && deferred.contains f) = false := fun f => by
    rw [Bool.and_eq_false_iff, List.contains_eq_mem, List.contains_eq_mem]
    by_cases k : f ∈ deferred
    · exact .inl (by simp [hc, k])
    · exact .inr (by simp [k])
  have whole : ∀ f : FeedId, (copied.contains f || deferred.contains f) = feeds.getLsbD f.val := fun f => by
    rw [Bool.eq_iff_iff, Bool.or_eq_true, List.contains_iff_mem, List.contains_iff_mem, ← mem_namedFeeds, hc]
    by_cases k : f ∈ deferred
    · simp [k, hd f k]
    · simp [k]
  obtain ⟨divides, disjoint, b₀, b₁, b₂, b₃⟩ := feedNibbles _ _ _ _ _ _ _ _ (apart 0) (apart 1) (apart 2) (apart 3)
  rw [whole 0, whole 1, whole 2, whole 3] at divides
  rw [h]
  refine ⟨divides.trans (Byte.eq_feedBits hb).symm, disjoint, fun f => ?_⟩
  rw [← List.contains_iff_mem]
  match f with
  | 0 => exact Bool.eq_iff_iff.1 b₀
  | 1 => exact Bool.eq_iff_iff.1 b₁
  | 2 => exact Bool.eq_iff_iff.1 b₂
  | 3 => exact Bool.eq_iff_iff.1 b₃

end Sys2Proof.Machine
end

section
/-! # APPLY in the rules' words (R148 to R153) -/

namespace Sys2Proof.Machine

/-! ## The whole command -/

section
variable (p : Port) (mask : Half) (feeds : Byte) (s : State)

/-- APPLY before it has gone to any district or feed. -/
def State.applyBegun : ApplyTally :=
  { state := s, copied := [], deferred := [], corrected := [], feedsCopied := [], feedsDeferred := [] }

/-- APPLY when it has gone over the named districts. -/
def State.appliedDistricts : ApplyTally := (namedDistricts mask).foldl (ApplyTally.district p mask) s.applyBegun

/-- APPLY when it has gone over the named feeds as well. -/
def State.appliedFeeds : ApplyTally := (namedFeeds feeds).foldl ApplyTally.feed (s.appliedDistricts p mask)

/-- SETTINGS-APPLIED, which ends an APPLY that names anything (R148). -/
def settingsApplied : Event :=
  { kind := .settingsApplied, subject := .nothing, origin := .port p, detail := feeds, value := mask }

/-- The state that APPLY leaves. -/
def State.applied : State :=
  if mask = 0 ∧ feeds = 0 then (s.appliedFeeds p mask feeds).state
  else (s.appliedFeeds p mask feeds).state.post (settingsApplied p mask feeds)

theorem State.applySettings_eq {feeds : Byte} (h : feeds.toNat ≤ 15) :
    State.applySettings p mask feeds s = (s.applied p mask feeds,
      { status := if (s.appliedFeeds p mask feeds).corrected.isEmpty then .ok else .okClamped
        data := halfBytes (districtMask (s.appliedFeeds p mask feeds).copied) ++
          halfBytes (districtMask (s.appliedFeeds p mask feeds).deferred) ++
          halfBytes (districtMask (s.appliedFeeds p mask feeds).corrected) ++
          [byteOf (feedMask (s.appliedFeeds p mask feeds).feedsCopied +
            16 * feedMask (s.appliedFeeds p mask feeds).feedsDeferred)] }) := by
  unfold State.applySettings
  rw [if_neg (by omega)]
  rfl

theorem State.applied_images :
    (s.applied p mask feeds).pendingImage = (s.appliedFeeds p mask feeds).state.pendingImage ∧
      (s.applied p mask feeds).activeImage = (s.appliedFeeds p mask feeds).state.activeImage := by
  unfold State.applied
  split <;> exact ⟨rfl, rfl⟩

theorem State.applied_district (d : DistrictId) :
    (s.applied p mask feeds).district d = (s.appliedFeeds p mask feeds).state.district d := by
  unfold State.applied
  split <;> rfl

theorem State.appliedDistricts_outcome :
    Corrected p mask s (namedDistricts mask) (s.appliedDistricts p mask) ∧
      Installed s (namedDistricts mask) (s.appliedDistricts p mask) ∧
      StoodBy s (namedDistricts mask) (s.appliedDistricts p mask) :=
  applyDistricts_outcome p mask s.applyBegun ⟨rfl, rfl, rfl⟩ _ (namedDistricts_sorted mask)
    fun d hd => (mem_namedDistricts mask d).1 hd

theorem namedFeeds_nodup (feeds : Byte) : (namedFeeds feeds).Nodup :=
  List.Nodup.filter _ (by decide : allFeeds.Nodup)

/-- A tally that has not come to the feeds yet. -/
theorem ApplyTally.district_feeds (t : ApplyTally) (l : List DistrictId) :
    (l.foldl (ApplyTally.district p mask) t).feedsCopied = t.feedsCopied ∧
      (l.foldl (ApplyTally.district p mask) t).feedsDeferred = t.feedsDeferred := by
  induction l generalizing t with
  | nil => exact ⟨rfl, rfl⟩
  | cons d l ih =>
    have first : (t.district p mask d).feedsCopied = t.feedsCopied ∧
        (t.district p mask d).feedsDeferred = t.feedsDeferred := by
      unfold ApplyTally.district
      dsimp only
      split <;> exact ⟨rfl, rfl⟩
    obtain ⟨h1, h2⟩ := ih (t.district p mask d)
    exact ⟨h1.trans first.1, h2.trans first.2⟩

theorem State.appliedFeeds_outcome :
    FeedsApplied (s.appliedDistricts p mask) (namedFeeds feeds) (s.appliedFeeds p mask feeds) :=
  applyFeeds_outcome _ (ApplyTally.district_feeds p mask _ _) _ (namedFeeds_nodup feeds)

end

/-- The guardian of a district is told by the district sets (R79). -/
theorem Image.guardianOf_congr {i j : Image} (h : i.districts = j.districts) (d : DistrictId) :
    i.guardianOf d = j.guardianOf d := by
  obtain ⟨districts, _, _⟩ := i
  subst h
  rfl

section
variable {p : Port} {mask : Half} {feeds : Byte} {s : State}

theorem State.applied_pending (d : DistrictId) :
    (s.applied p mask feeds).pendingImage.district d = (s.appliedDistricts p mask).state.pendingImage.district d := by
  rw [(s.applied_images p mask feeds).1, (s.appliedFeeds_outcome p mask feeds).pendingImage]

theorem State.applied_districtSets :
    (s.applied p mask feeds).activeImage.districts = (s.appliedDistricts p mask).state.activeImage.districts := by
  rw [(s.applied_images p mask feeds).2, (s.appliedFeeds_outcome p mask feeds).districtSets]

theorem State.applied_dset (d : DistrictId) :
    (s.applied p mask feeds).dset d = (s.appliedDistricts p mask).state.dset d := by
  simp only [State.dset, Image.district, State.applied_districtSets]

theorem State.applied_bystander {d : DistrictId} (h : ((s.appliedDistricts p mask).state.district d).state ≠ .queued) :
    (s.applied p mask feeds).district d = (s.appliedDistricts p mask).state.district d := by
  rw [State.applied_district, (s.appliedFeeds_outcome p mask feeds).bystander d h]

theorem State.applied_guardianOf (d : DistrictId) :
    (s.applied p mask feeds).activeImage.guardianOf d =
      (s.appliedDistricts p mask).state.activeImage.guardianOf d :=
  Image.guardianOf_congr State.applied_districtSets d

/-- The sets that APPLY's corrections read: the pending ones of the named, the active ones of the others (R149). -/
theorem State.applied_view :
    (s.appliedDistricts p mask).state.correctionView mask = fun e =>
      if mask.getLsbD e.val = true then (s.applied p mask feeds).pendingImage.district e else s.dset e := by
  funext e
  unfold State.correctionView
  split
  · rw [State.applied_pending]
  · have active := (s.appliedDistricts_outcome p mask).2.1.active e
    rwa [if_neg (by rw [mem_namedDistricts]; tauto)] at active

/-- The districts whose pending sets APPLY changes (R149). -/
theorem State.applied_corrected :
    (s.appliedDistricts p mask).corrected = (namedDistricts mask).filter (fun d =>
      decide ((s.applied p mask feeds).pendingImage.district d ≠ s.pendingImage.district d)) := by
  rw [(s.appliedDistricts_outcome p mask).1.corrected]
  exact List.filter_congr fun d _ => by rw [State.applied_pending]

/-- What APPLY does at a named district (R148 to R151). -/
theorem State.applied_named {d : DistrictId} (named : mask.getLsbD d.val = true) :
    (s.applied p mask feeds).pendingImage.district d = (s.pendingImage.district d).corrected (fun e =>
      if mask.getLsbD e.val = true then (s.applied p mask feeds).pendingImage.district e else s.dset e) d ∧
    (d ∈ (s.appliedDistricts p mask).deferred → (s.applied p mask feeds).dset d = s.dset d ∧
      ((s.applied p mask feeds).district d).applyDeferred = true) ∧
    (d ∉ (s.appliedDistricts p mask).deferred →
      (s.applied p mask feeds).dset d = (s.applied p mask feeds).pendingImage.district d) ∧
    ((s.district d).state.defersApply = true → d ∈ (s.appliedDistricts p mask).deferred) ∧
    ((s.district d).state.defersApply = false → (s.district d).state ≠ .queued →
      d ∉ (s.appliedDistricts p mask).deferred ∧
      (((s.applied p mask feeds).dset d).feed = (s.dset d).feed →
        ((s.applied p mask feeds).dset d).kind = (s.dset d).kind →
        ({ s.district d with
            retry := min (s.district d).retry ((s.applied p mask feeds).dset d).r } : District).Loosens
          ((s.applied p mask feeds).activeImage.guardianOf d ≠ s.activeImage.guardianOf d)
          ((s.applied p mask feeds).district d))) := by
  obtain ⟨corrected, installed, stood⟩ := s.appliedDistricts_outcome p mask
  have mem : d ∈ namedDistricts mask := (mem_namedDistricts mask d).2 named
  refine ⟨?_, fun hd => ?_, fun hd => ?_, stood.busy d mem, fun hs hq => ?_⟩
  · rw [State.applied_pending, corrected.pending, if_pos mem, State.applied_view (feeds := feeds)]
  · obtain ⟨flag, state⟩ := stood.marked d hd
    refine ⟨?_, by rw [State.applied_bystander state]; exact flag⟩
    rw [State.applied_dset, installed.active, if_neg (fun k => k.2 hd)]
  · rw [State.applied_dset, installed.active, if_pos ⟨mem, hd⟩, State.applied_pending]
  · obtain ⟨notDeferred, same⟩ := stood.settled d mem hs hq
    refine ⟨notDeferred, fun hf hk => ?_⟩
    rw [State.applied_dset] at hf hk ⊢
    have loosens := same hf hk
    rw [State.applied_bystander (by rw [loosens.state]; exact hq), State.applied_guardianOf]
    exact loosens

/-- The events of APPLY: one for each corrected set, ascending, and SETTINGS-APPLIED (R148, R149). -/
theorem State.applied_reports {u : State} (hu : u = (s.appliedDistricts p mask).corrected.foldl (fun u d => u.post
      (correctedEvent d (.port p) (s.pendingImage.district d) ((s.applied p mask feeds).pendingImage.district d))) s) :
    (s.applied p mask feeds).ReportsLike
      (if mask = 0 ∧ feeds = 0 then u else u.post (settingsApplied p mask feeds)) := by
  obtain ⟨corrected, -, -⟩ := s.appliedDistricts_outcome p mask
  have fed := s.appliedFeeds_outcome p mask feeds
  obtain ⟨ring, ports⟩ := corrected.reports
  simp only [← State.applied_pending (feeds := feeds)] at ring ports
  rw [← hu] at ring ports
  have before : (s.appliedFeeds p mask feeds).state.ReportsLike u := ⟨fed.reports.1.trans ring, fed.reports.2.trans ports⟩
  have now : (s.appliedFeeds p mask feeds).state.now = u.now := by
    rw [fed.now, corrected.now, hu]
    exact (State.foldl_post_now (fun d => correctedEvent d (.port p) (s.pendingImage.district d)
      ((s.applied p mask feeds).pendingImage.district d)) _ s).symm
  unfold State.applied
  split
  · exact before
  · exact before.post now _

end

theorem Half.and_xor_of_division {ds copied deferred : List DistrictId} {mask : Half}
    (hm : ∀ d, d ∈ ds ↔ mask.getLsbD d.val = true) (hc : ∀ d, d ∈ copied ↔ d ∈ ds ∧ d ∉ deferred)
    (hd : ∀ d ∈ deferred, d ∈ ds) :
    districtMask copied = mask ^^^ districtMask deferred ∧ mask &&& districtMask deferred = districtMask deferred := by
  refine ⟨Half.ext_districts fun d => ?_, Half.ext_districts fun d => ?_⟩
  · rw [BitVec.getLsbD_xor, districtMask_getLsbD, districtMask_getLsbD]
    by_cases k : d ∈ deferred
    · simp [hc, k, (hm d).1 (hd d k)]
    · simp [hc, k, hm]
  · rw [BitVec.getLsbD_and, districtMask_getLsbD]
    by_cases k : d ∈ deferred
    · simp [k, (hm d).1 (hd d k)]
    · simp [k]

/-! ## One district alone -/

theorem shift_getLsbD {mask : Half} {d : DistrictId} (h : mask = 1 <<< d.val) (e : DistrictId) :
    mask.getLsbD e.val = decide (e = d) := by
  subst h
  revert d e
  decide

section
variable {mask : Half} {d : DistrictId} (hm : ∀ e : DistrictId, mask.getLsbD e.val = decide (e = d))
include hm

theorem namedDistricts_single : namedDistricts mask = [d] := by
  have all : ∀ d : DistrictId, allDistricts.filter (fun e => decide (e = d)) = [d] := by decide
  simp only [namedDistricts, hm, all]

theorem districtMask_single : districtMask [d] = mask :=
  Half.ext_districts fun e => by rw [districtMask_getLsbD, hm]; simp

theorem Half.single_ne_zero : mask ≠ 0 := fun k => by
  have bit := hm d
  rw [k] at bit
  simp at bit

/-- One district named: its correction reads the active sets of the others. -/
theorem State.corrected_single (s : State) :
    (s.pendingImage.district d).corrected (s.correctionView mask) d =
      (s.pendingImage.district d).corrected s.dset d := by
  have view : ∀ e, e ≠ d → s.correctionView mask e = s.dset e := fun e he => by
    unfold State.correctionView
    rw [hm, if_neg (by simpa using he)]
    rfl
  exact DistrictSet.corrected_congr (fun x hx => by rw [view x hx]) (fun x hx => by rw [view x (ne_of_lt hx)])

theorem State.correct_single (s : State) (o : Origin) : s.correct mask o d = s.setCorrected o d := by
  rw [State.correct_eq, State.corrected_single hm]
  rfl

/-- The tally of an APPLY that names one district. -/
theorem State.appliedFeeds_single (s : State) (p : Port) :
    s.appliedFeeds p mask 0 = s.applyBegun.district p mask d := by
  unfold State.appliedFeeds State.appliedDistricts
  rw [namedDistricts_single hm]
  rfl

end

/-- The answer to an APPLY that names one district. -/
def applyAnswer (deferred corrected : Bool) (mask : Half) : Reply :=
  { status := if corrected = true then .okClamped else .ok
    data := (if deferred = true then [0, 0] ++ halfBytes mask else halfBytes mask ++ [0, 0]) ++
      halfBytes (if corrected = true then mask else 0) ++ [0] }

/-- APPLY of one district: its set is corrected, and it is copied or deferred (R148 to R150). -/
theorem exec_apply_single {p : Port} {s : State} {d : DistrictId} {mask : Half} (may : s.MayRequest p .apply)
    (hm : ∀ e : DistrictId, mask.getLsbD e.val = decide (e = d)) {corrected : Bool}
    (hc : corrected = decide ((s.pendingImage.district d).corrected s.dset d ≠ s.pendingImage.district d)) :
    exec (.apply p mask 0) s = .next
      (((if (s.district d).state.defersApply = true then
          (s.setCorrected (.port p) d).modDistrict d (fun r => { r with applyDeferred := true })
        else (s.setCorrected (.port p) d).copyDistrict d).post (settingsApplied p mask 0)).respond p 0x33
        (applyAnswer (s.district d).state.defersApply corrected mask)) := by
  have served : exec (.apply p mask 0) s = .next (s.serve (.apply p mask 0) (State.applySettings p mask 0)) := rfl
  have named : ¬(mask = 0 ∧ (0 : Byte) = 0) := fun k => Half.single_ne_zero hm k.1
  have set : s.applyBegun.correctedSet mask d = (s.pendingImage.district d).corrected s.dset d :=
    State.corrected_single hm s
  have state : s.applyBegun.correctedState p mask d = s.setCorrected (.port p) d := State.correct_single hm s _
  have corrections : (s.applyBegun.district p mask d).corrected = if corrected = true then [d] else [] := by
    rw [ApplyTally.district_corrected, set, hc]
    by_cases k : (s.pendingImage.district d).corrected s.dset d = s.pendingImage.district d
    · exact (if_pos k).trans (if_neg (by simpa using k)).symm
    · exact (if_neg k).trans (if_pos (by simpa using k)).symm
  have byte : byteOf (feedMask (s.applyBegun.district p mask d).feedsCopied +
      16 * feedMask (s.applyBegun.district p mask d).feedsDeferred) = 0 := by
    obtain ⟨h1, h2⟩ := ApplyTally.district_feeds p mask s.applyBegun [d]
    rw [List.foldl_cons, List.foldl_nil] at h1 h2
    rw [h1, h2]
    rfl
  rw [served, may.serve rfl, State.applySettings_eq _ _ _ (by decide), State.applied, if_neg named,
    State.appliedFeeds_single hm, byte, corrections, ApplyTally.district_deferred, ApplyTally.district_copied,
    ApplyTally.district_state, state]
  refine congrArg _ (congrArg₂ (fun t r => State.respond t p 0x33 r) rfl ?_)
  have mask₁ := districtMask_single hm
  have mask₀ : districtMask [] = 0 := rfl
  have bytes₀ : halfBytes 0#16 = [0#8, 0#8] := rfl
  unfold applyAnswer ApplyTally.defers
  cases hd : (s.district d).state.defersApply <;> cases corrected <;>
    simp [State.applyBegun, hd, mask₁, mask₀, bytes₀]

/-- Settles O49: for any districts and feeds by what the tally holds, for one district by its copy. -/
theorem applyCorrectsAndCopies : Obligations.ApplyCorrectsAndCopies := by
  refine ⟨fun p mask feeds s may hf _ => ?_, fun p d mask corrected s may hm lawful hc => ?_⟩
  · have fed := s.appliedFeeds_outcome p mask feeds
    obtain ⟨corrected, installed, -⟩ := s.appliedDistricts_outcome p mask
    obtain ⟨copied, deferred, changed⟩ := fed.tallies
    obtain ⟨copies, within⟩ := Half.and_xor_of_division (mem_namedDistricts mask) installed.copied installed.among
    obtain ⟨divides, disjoint, bits⟩ := feedByte_divides hf fed.copied fed.among rfl
    obtain ⟨pendingImage, activeImage⟩ := s.applied_images p mask feeds
    have served : exec (.apply p mask feeds) s =
        .next (s.serve (.apply p mask feeds) (State.applySettings p mask feeds)) := rfl
    refine ⟨s.applied p mask feeds, districtMask (s.appliedDistricts p mask).deferred, _,
      (s.appliedDistricts p mask).corrected, State.applied_corrected, ?_, within, divides, disjoint, fun d named => ?_,
      fun d unnamed => ?_, fun f => ?_, ?_, ?_, ?_, _, rfl, State.applied_reports rfl⟩
    · rw [served, may.serve rfl, State.applySettings_eq _ _ _ hf, copied, deferred, changed, ← copies]
      simp only [List.isEmpty_iff]
      rfl
    · obtain ⟨set, waits, works, busy, rest⟩ := State.applied_named (p := p) (feeds := feeds) (s := s) named
      refine ⟨set, by rw [set]; exact DistrictSet.corrected_ordered _ _ _, fun h => waits ?_, fun h => works ?_,
        fun h => ?_, fun h => ?_⟩
      · rw [districtMask_getLsbD] at h
        exact of_decide_eq_true h
      · rw [districtMask_getLsbD] at h
        exact of_decide_eq_false h
      · rw [districtMask_getLsbD]
        exact decide_eq_true (busy (by rcases h with k | k | k <;> rw [k] <;> rfl))
      · obtain ⟨notDeferred, same⟩ := rest (by rcases h with k | k | k | k | k <;> rw [k] <;> rfl)
          (by rcases h with k | k | k | k | k <;> simp [k])
        exact ⟨by rw [districtMask_getLsbD]; exact decide_eq_false notDeferred, same⟩
    · have other : d ∉ namedDistricts mask := by rw [mem_namedDistricts, unnamed]; simp
      rw [State.applied_pending, State.applied_dset, corrected.pending, installed.active, if_neg other,
        if_neg (fun k => other k.1)]
      exact ⟨rfl, rfl⟩
    · have set := fed.sets f
      unfold State.fset at set ⊢
      rw [activeImage, set]
      simp only [Image.feed, corrected.feeds, installed.feeds, bits f]
    · rw [pendingImage, fed.pendingImage, corrected.feeds]
    · rw [pendingImage, fed.pendingImage, corrected.chains]
    · rw [activeImage, fed.chains, installed.chains]
  · have ran := exec_apply_single may (shift_getLsbD hm) hc
    refine ⟨fun h => ?_, fun h1 h2 h3 => ?_⟩
    · have defers : (s.district d).state.defersApply = true := by rcases h with k | k | k <;> rw [k] <;> rfl
      rw [ran, defers]
      rfl
    · have copies : (s.district d).state.defersApply = false := by
        cases hs : (s.district d).state <;> simp_all [DState.defersApply]
      have record : (s.setCorrected (.port p) d).district d = s.district d := by
        rw [← State.correct_zero, State.correct_district]
      refine ⟨_, State.copyDistrict_copies (by rw [record]; exact lawful d), ?_⟩
      rw [ran, copies]
      rfl

end Sys2Proof.Machine
end

section
/-! # The running figures through a sample (R27 to R29, R40, R41) -/

namespace Sys2Proof.Machine

/-! ## What leaves every district's running figures as they are -/

/-- The running figures of every district (R40). -/
def State.accounts (s : State) : DistrictId → Accounting := fun e => (s.district e).acct

@[simp] theorem State.post_accounts (s : State) (ev : Event) : (s.post ev).accounts = s.accounts := rfl

@[simp] theorem State.postDistrict_accounts (s : State) (kind : EventKind) (d : DistrictId) (detail value : Nat) :
    (s.postDistrict kind d detail value).accounts = s.accounts := rfl

@[simp] theorem State.modFeed_accounts (s : State) (f : FeedId) (g : Feed → Feed) :
    (s.modFeed f g).accounts = s.accounts := rfl

@[simp] theorem State.modWalk_accounts (s : State) (f : FeedId) (g : Walk → Walk) :
    (s.modWalk f g).accounts = s.accounts := rfl

/-- A change of a record that leaves its figures out. -/
@[simp] theorem State.modDistrict_accounts (s : State) (d : DistrictId) {g : District → District}
    (h : ∀ r, (g r).acct = r.acct) : (s.modDistrict d g).accounts = s.accounts := by
  funext e
  by_cases he : e = d
  · simp [State.accounts, he, h]
  · simp [State.accounts, State.district_modDistrict_of_ne he]

/-- What is done for each of some districts in turn. -/
theorem State.foldl_accounts {act : State → DistrictId → State} (h : ∀ s d, (act s d).accounts = s.accounts)
    (ds : List DistrictId) (s : State) : (ds.foldl act s).accounts = s.accounts := by
  induction ds generalizing s with
  | nil => rfl
  | cons d ds ih => rw [List.foldl_cons, ih, h]

/-! ## The arbiter (chapters 03, 05) -/

theorem Grants.accounts {f : FeedId} {s t : State} (h : Grants f s t) : t.accounts = s.accounts := by
  funext e
  unfold State.accounts
  rcases h.districts e with k | ⟨-, -, k⟩ <;> rw [k]
  simp [District.granted, District.startSoak]

@[simp] theorem State.runGrantRule_accounts (s : State) (f : FeedId) : (s.runGrantRule f).accounts = s.accounts :=
  (s.runGrantRule_grants f).accounts

@[simp] theorem State.enqueue_accounts (s : State) (f : FeedId) (d : DistrictId) :
    (s.enqueue f d).accounts = s.accounts := by simp [State.enqueue]

@[simp] theorem State.returnToService_accounts (s : State) (d : DistrictId) :
    (s.returnToService d).accounts = s.accounts := by
  unfold State.returnToService
  split <;> simp [State.join]

@[simp] theorem State.latch_accounts (s : State) (d : DistrictId) (cause : Cause) :
    (s.latch d cause).accounts = s.accounts := by simp [State.latch]

@[simp] theorem State.tripOrLatch_accounts (s : State) (d : DistrictId) (cause : Cause) :
    (s.tripOrLatch d cause).accounts = s.accounts := by
  unfold State.tripOrLatch
  split <;> simp [District.toTripped]

@[simp] theorem State.endGrace_accounts (s : State) (v : DistrictId) : (s.endGrace v).accounts = s.accounts := by
  unfold State.endGrace
  split <;> simp

/-! ## The walker (chapter 06) -/

@[simp] theorem State.settleDark_accounts (f : FeedId) (s : State) (d : DistrictId) :
    (s.settleDark f d).accounts = s.accounts := by
  unfold State.settleDark
  split <;> simp

@[simp] theorem State.copyWaitingChains_accounts (s : State) : s.copyWaitingChains.accounts = s.accounts := by
  unfold State.copyWaitingChains
  split <;> rfl

@[simp] theorem State.haltWalk_accounts (s : State) (f : FeedId) (o : Origin) (why : HaltReason) :
    (s.haltWalk f o why).accounts = s.accounts := rfl

@[simp] theorem State.endWalk_accounts (s : State) (f : FeedId) (o : Origin) (why : EndReason) :
    (s.endWalk f o why).accounts = s.accounts := by
  simp [State.endWalk, State.postWalk, State.foldl_accounts (State.settleDark_accounts f)]

@[simp] theorem State.admitMember_accounts (s : State) (f : FeedId) (m : DistrictId) :
    (s.admitMember f m).accounts = s.accounts := by simp [State.admitMember, District.startSoak]

@[simp] theorem admitFrom_accounts (f : FeedId) (ms : List DistrictId) (s : State) :
    (admitFrom f ms s).accounts = s.accounts := by
  induction ms generalizing s with
  | nil => rfl
  | cons m rest ih =>
    unfold admitFrom
    dsimp only
    repeat' split
    all_goals simp [ih, State.skipMember]

@[simp] theorem State.runAdmission_accounts (s : State) (f : FeedId) : (s.runAdmission f).accounts = s.accounts :=
  admitFrom_accounts f _ s

theorem State.complete_accounts {f : FeedId} {visit : Position → State → State}
    (hv : ∀ pos s, (visit pos s).accounts = s.accounts) (s : State) : (s.complete visit f).accounts = s.accounts := by
  unfold State.complete State.pauseOrLink
  repeat' split
  all_goals simp [hv, State.postEntryDone, State.postWalk]

@[simp] theorem visit_accounts (n : Nat) (f : FeedId) (pos : Position) (s : State) :
    (visit n f pos s).accounts = s.accounts := by
  induction n generalizing pos s with
  | zero => rfl
  | succ n ih =>
    unfold visit
    dsimp only
    split
    · simp
    · simp [State.complete_accounts ih]

theorem State.visitEntry_accounts (f : FeedId) (pos : Position) (s : State) :
    (s.visitEntry f pos).accounts = s.accounts := visit_accounts _ f pos s

@[simp] theorem State.walkNotice_accounts (s : State) (f : FeedId) (d : DistrictId) (o : NoticeOutcome) :
    (s.walkNotice f d o).accounts = s.accounts := by
  unfold State.walkNotice
  split
  · rfl
  · dsimp only
    rw [State.complete_accounts (State.visitEntry_accounts f)]
    repeat' split
    all_goals simp

/-! ## Notices and copies (chapters 05, 07) -/

@[simp] theorem State.copyWaitingFeed_accounts (s : State) (f : FeedId) :
    (s.copyWaitingFeed f).accounts = s.accounts := by
  unfold State.copyWaitingFeed
  split
  · rw [State.deferredFeedCopy, State.runGrantRule_accounts]
    rfl
  · rfl

@[simp] theorem State.soakEndNotice_accounts (s : State) (f : FeedId) (d : DistrictId) (c : SoakContext)
    (o : NoticeOutcome) : (s.soakEndNotice f d c o).accounts = s.accounts := by
  unfold State.soakEndNotice
  dsimp only
  split <;> simp

@[simp] theorem State.setCopied_accounts (s : State) (d : DistrictId) : (s.setCopied d).accounts = s.accounts := by
  funext e
  simp [State.accounts]

@[simp] theorem State.leaveFor_accounts (s : State) (f : FeedId) (d : DistrictId) (st : DState) :
    (s.leaveFor f d st).accounts = s.accounts := by
  unfold State.leaveFor
  dsimp only
  split <;> simp [State.leaveQueue]

@[simp] theorem State.straightened_accounts (s : State) (d : DistrictId) :
    (s.straightened d).accounts = s.accounts :=
  State.modDistrict_accounts s d fun r => by split <;> rfl

@[simp] theorem State.changeFeedOrKind_accounts (s : State) (old : FeedId) (d : DistrictId) :
    (s.changeFeedOrKind old d).accounts = s.accounts := by
  rw [← s.straightened_accounts d]
  unfold State.changeFeedOrKind
  dsimp only
  rw [← State.straightened]
  repeat' split
  all_goals simp

@[simp] theorem State.copyDistrict_accounts (s : State) (d : DistrictId) :
    (s.copyDistrict d).accounts = s.accounts := by
  unfold State.copyDistrict
  rw [State.installDistrict_eq_setCopied]
  dsimp only
  repeat' split
  all_goals simp

@[simp] theorem State.correct_accounts (s : State) (named : Half) (o : Origin) (d : DistrictId) :
    (s.correct named o d).accounts = s.accounts := by
  funext e
  simp [State.accounts]

@[simp] theorem State.deferredCopy_accounts (s : State) (d : DistrictId) :
    (s.deferredCopy d).accounts = s.accounts := by
  unfold State.deferredCopy
  split <;> simp

/-! ## The evaluation of a sample (chapters 02 to 04) -/

@[simp] theorem State.trip_accounts (s : State) (d : DistrictId) (why : Condition) (figure : Nat) :
    (s.trip d why figure).accounts = s.accounts := by simp [State.trip]

@[simp] theorem State.excuse_accounts (s : State) (d : DistrictId) (figure : Nat) :
    (s.excuse d figure).accounts = s.accounts := by simp [State.excuse]

@[simp] theorem State.soakFail_accounts (s : State) (d : DistrictId) (c : SoakContext) (why : SoakFailure) :
    (s.soakFail d c why).accounts = s.accounts := by simp [State.soakFail]

@[simp] theorem State.soakPass_accounts (s : State) (d : DistrictId) (c : SoakContext) :
    (s.soakPass d c).accounts = s.accounts := by simp [State.soakPass]

@[simp] theorem State.swapTrigger_accounts (s : State) (v : DistrictId) :
    (s.swapTrigger v).accounts = s.accounts := by
  unfold State.swapTrigger
  dsimp only
  repeat' split
  all_goals simp

@[simp] theorem State.swapSuccess_accounts (s : State) (v : DistrictId) :
    (s.swapSuccess v).accounts = s.accounts := by simp [State.swapSuccess]

@[simp] theorem State.swapFail_accounts (s : State) (v : DistrictId) (test figure : Nat) :
    (s.swapFail v test figure).accounts = s.accounts := by simp [State.swapFail]

@[simp] theorem State.evaluateSoak_accounts (s : State) (d : DistrictId) (x : Nat) :
    (s.evaluateSoak d x).accounts = s.accounts := by
  unfold State.evaluateSoak
  dsimp only
  repeat' split
  all_goals simp

@[simp] theorem State.evaluateCheck_accounts (s : State) (d : DistrictId) (x : Nat) :
    (s.evaluateCheck d x).accounts = s.accounts := by
  unfold State.evaluateCheck
  dsimp only
  repeat' split
  all_goals simp

@[simp] theorem State.evaluateReversing_accounts (s : State) (d : DistrictId) (x : Nat) :
    (s.evaluateReversing d x).accounts = s.accounts := by
  unfold State.evaluateReversing
  repeat' split
  all_goals simp

@[simp] theorem State.evaluatePlain_accounts (s : State) (d : DistrictId) (x : Nat) :
    (s.evaluatePlain d x).accounts = s.accounts := by
  unfold State.evaluatePlain State.evaluateLive
  repeat' split
  all_goals simp [State.defer]

@[simp] theorem State.resolveDeferral_accounts (s : State) (d : DistrictId) (df : Deferral) :
    (s.resolveDeferral d df).accounts = s.accounts := by
  unfold State.resolveDeferral
  dsimp only
  split <;> simp

@[simp] theorem State.evaluatePartner_accounts (s : State) (d : DistrictId) (x : Nat) :
    (s.evaluatePartner d x).accounts = s.accounts := by
  unfold State.evaluatePartner
  dsimp only
  repeat' split
  all_goals simp

/-- Whatever follows a sample, the running figures stay as its accounting step left them (R29). -/
theorem State.evaluate_accounts (s : State) (d : DistrictId) (x : Nat) : (s.evaluate d x).accounts = s.accounts := by
  unfold State.evaluate
  repeat' split
  all_goals simp

theorem State.judgeOccupancy_accounts (s : State) (d : DistrictId) : (s.judgeOccupancy d).accounts = s.accounts := by
  unfold State.judgeOccupancy
  dsimp only
  repeat' split
  all_goals simp

/-- The running figures after a sample that a CLOSED district takes (R40, R41). -/
theorem State.takeSample_accounts {s : State} {d : DistrictId} (hk : (s.dset d).kind ≠ .unused)
    (hc : (s.district d).switch = .closed) (x : Nat) (e : DistrictId) :
    (s.takeSample d x).accounts e = if e = d then (s.accounts d).counted x else s.accounts e := by
  rw [State.takeSample, if_neg (by simp [hk, hc]), State.evaluate_accounts, State.judgeOccupancy_accounts,
    State.accounts, State.district_modDistrict, ← Accounting.add_eq_counted]
  split <;> rfl

/-! ## Samples that arrive (R27, R28) -/

/-- A sample of a running part reaches its record as a sense count (R27). -/
theorem exec_sampleArrival_of_running {s : State} (running : s.inReset = false) (d : DistrictId) (level : Int) :
    exec (.sampleArrival d level) s = .next (s.takeSample d (senseCount level)) :=
  congrArg _ (State.whenRunning_of_running running _)

/-- Two levels with the same sense count are the same sample (R27). -/
theorem exec_sampleArrival_congr {a b : Int} (h : senseCount a = senseCount b) (d : DistrictId) (s : State) :
    exec (.sampleArrival d a) s = exec (.sampleArrival d b) s := by
  show execSampleArrival d a s = execSampleArrival d b s
  rw [execSampleArrival, h, execSampleArrival]

/-- A discarded sample (R28). -/
theorem State.takeSample_of_discarded {s : State} {d : DistrictId}
    (h : (s.dset d).kind = .unused ∨ (s.district d).switch = .opened) (x : Nat) : s.takeSample d x = s := if_pos h

/-- Settles O18: both ends of the sense counts, and the discard, in reset and out of it. -/
theorem samplesAreClampedOrDiscarded : Obligations.SamplesAreClampedOrDiscarded := by
  refine fun d level s => ⟨fun low => ?_, fun high => ?_, fun discarded => ?_⟩
  · refine exec_sampleArrival_congr ?_ d s
    simp only [senseCount, Config.fullScale]
    omega
  · refine exec_sampleArrival_congr ?_ d s
    simp only [senseCount, Config.fullScale]
    omega
  · cases reset : s.inReset with
    | true => exact congrArg _ (State.whenRunning_of_inReset reset _)
    | false => rw [exec_sampleArrival_of_running reset, State.takeSample_of_discarded discarded]

/-- Settles O19: the accounting step counts the sample, and no step after it writes running figures. -/
theorem everySampleIsCountedOnceInItsDistrict : Obligations.EverySampleIsCountedOnceInItsDistrict := by
  intro d x s hx running used closed
  have count : senseCount (x : Int) = x := by simp [senseCount, Config.fullScale, hx]
  have figures := State.takeSample_accounts used closed x
  refine ⟨s.takeSample d x, by rw [exec_sampleArrival_of_running running, count], ?_, fun e he => ?_⟩
  · simpa [State.accounts] using figures d
  · simpa [State.accounts, he] using figures e

end Sys2Proof.Machine
end

section
/-! # Excuses, trips and deferrals of a LIVE district in the rules' words (R22, R23, R35 to R39, R80, R91, R92) -/

namespace Sys2Proof.Machine

/-! ## The guardian (R79, R91) -/

/-- A district has at most one guardian: of two REVERSING districts that name it the lower one is meant (R79). -/
theorem Image.le_of_partnerOf {i : Image} {v w p : DistrictId} (hv : i.partnerOf v = some p)
    (hw : i.partnerOf w = some p) : v ≤ w := by
  have claim : ∀ {u : DistrictId}, i.partnerOf u = some p →
      (i.district u).claims p = true ∧ ∀ e < u, (i.district e).claims p = false := fun {u} hu => by
    unfold Image.partnerOf at hu
    split at hu
    · simp at hu
    case _ q hq =>
      split at hu
      case isFalse => simp at hu
      case isTrue hc =>
        obtain ⟨reversing, -, -, first⟩ := hc
        obtain rfl : q = p := by simpa using hu
        refine ⟨by simp [DistrictSet.claims, reversing, hq], fun e he => ?_⟩
        have := List.all_eq_true.1 first e (mem_allDistricts e)
        simpa [not_le.2 he] using this
  by_contra less
  simpa [(claim hw).1] using (claim hv).2 w (not_le.1 less)

theorem Image.guardianOf_of_partnerOf {i : Image} {v p : DistrictId} (h : i.partnerOf v = some p) :
    i.guardianOf p = some v := by
  unfold Image.guardianOf
  cases found : allDistricts.find? (fun v => i.partnerOf v == some p) with
  | none => simpa [h] using List.find?_eq_none.1 found v (mem_allDistricts v)
  | some w =>
    have hw : i.partnerOf w = some p := by simpa using List.find?_some found
    rw [le_antisymm (Image.le_of_partnerOf hw h) (Image.le_of_partnerOf h hw)]

theorem State.guardianLive_of_partner {s : State} {v d : DistrictId} (h : s.activeImage.partnerOf v = some d)
    (live : (s.district v).state = .live) : s.guardianLive d = true := by
  simp [State.guardianLive, Image.guardianOf_of_partnerOf h, live]

theorem State.guardianLive_of_unguarded {s : State} {d : DistrictId} (h : s.Unguarded d) :
    s.guardianLive d = false := by
  unfold State.guardianLive
  split
  · rfl
  case _ v hv =>
    have partner : s.activeImage.partnerOf v = some d := by simpa using List.find?_some hv
    simpa using h v partner

/-- Whether the guardian is LIVE is told by the active settings and the districts' states. -/
theorem State.guardianLive_congr {s t : State} {d : DistrictId} (image : t.activeImage = s.activeImage)
    (states : ∀ e, (t.district e).state = (s.district e).state) : t.guardianLive d = s.guardianLive d := by
  unfold State.guardianLive
  simp only [image, states]

/-! ## A district on watch -/

/-- A lawful record in LIVE, out of grace and without a deferral: one whose samples are evaluated at once (R34). -/
structure District.OnWatch (r : District) : Prop where
  lawful : r.Lawful
  live : r.state = .live
  grace : r.grace = false
  deferral : r.deferral = none

/-- A record on watch that opens its switch gives up its window and its settle timer, and no other field (R6, R31). -/
theorem District.OnWatch.enter_eq {r : District} (h : r.OnWatch) {st : DState} (hst : st = .tripped ∨ st = .latched) :
    r.enter st = r.darkened st := by
  have absent : ∀ {α : Type} {o : Option α}, ¬o.isSome = true → o = none := fun k => Option.not_isSome_iff_eq_none.1 k
  obtain ⟨lawful, live, grace, deferral⟩ := h
  have closed : r.switch = .closed := lawful.closed_iff.2 (.inl live)
  have soak : r.soak = none := lawful.soak_none (by simp [live])
  have preSwap : r.preSwap = none := absent fun k => by simpa [live] using lawful.preSwap_iff.1 k
  have checkCount : r.checkCount = none := absent fun k => by simpa [live] using lawful.checkCount_iff.1 k
  have coolDown : r.coolDown = none := lawful.coolDown_none (by simp [live])
  have deadTime : r.deadTime = none := absent fun k => by simpa [live] using lawful.swapping_of_deadTime k
  rcases hst with rfl | rfl <;>
    simp [District.enter, District.darkened, District.clearWindow, clearedWindow, DState.energised, DState.isSwap,
      DState.settles, closed, grace, deferral, soak, preSwap, checkCount, coolDown, deadTime]

/-! ## Trips and excuses (R22, R23, R36, R39, R48) -/

/-- The LATCHED decision on a record on watch, in the rules' words (R22, R23, R48). -/
theorem State.tripOrLatch_of_onWatch {s : State} {d : DistrictId} (h : (s.district d).OnWatch) (cause : Cause) :
    s.tripOrLatch d cause = s.tripsOrLatches d cause := by
  obtain ⟨-, -, -, -, latches, -, -⟩ := h.lawful.stable.stats
  unfold State.tripOrLatch State.tripsOrLatches
  split
  case isTrue atLimit =>
    rw [if_neg (by omega), State.latch]
    congr 1
    exact State.modDistrict_congr (by rw [h.enter_eq (.inr rfl), Counter.rise_eq_oneMore latches])
  case isFalse below =>
    rw [if_pos (by omega)]
    exact State.modDistrict_congr (by rw [District.toTripped, h.enter_eq (.inl rfl)])

/-- A trip from LIVE, in the rules' words (R39). -/
theorem State.trip_eq_trippedBy {s : State} {d : DistrictId} (h : (s.district d).OnWatch) (why : Condition)
    (figure : Nat) : s.trip d why figure = s.trippedBy d why figure := by
  obtain ⟨trips, -⟩ := id h.lawful.stable.stats
  have code : why.cause.code = why.code := by cases why <;> rfl
  have counted : s.modDistrict d (fun r => { r with
        lastCause := why.cause, mode := .strict, stats := { r.stats with trips := r.stats.trips.rise } }) =
      s.modDistrict d (fun r => { r with
        lastCause := why.cause, mode := .strict, stats := { r.stats with trips := r.stats.trips.oneMore } }) :=
    State.modDistrict_congr (by rw [Counter.rise_eq_oneMore trips])
  unfold State.trip State.trippedBy
  dsimp only
  rw [State.tripOrLatch_of_onWatch, counted, code]
  rw [State.postDistrict_district, State.district_modDistrict_same]
  exact ⟨(h.lawful.with_stats h.lawful.stable.stats.tripped :), h.live, h.grace, h.deferral⟩

/-- A tripped district is not LIVE. -/
theorem State.trip_state (s : State) (d : DistrictId) (why : Condition) (figure : Nat) :
    ((s.trip d why figure).district d).state ≠ .live := by
  unfold State.trip
  dsimp only
  rw [State.tripOrLatch_record, if_pos rfl]
  rcases District.failed_state _ _ _ with k | k <;> rw [k] <;> simp

/-- An excuse in the rules' words (R36). -/
theorem State.excuse_eq_excusedAt {s : State} {d : DistrictId} (h : (s.district d).Lawful) (figure : Nat) :
    s.excuse d figure = s.excusedAt d figure := by
  obtain ⟨-, excuses, -⟩ := h.stable.stats
  unfold State.excuse State.excusedAt
  congr 1
  exact State.modDistrict_congr (by rw [Counter.rise_eq_oneMore excuses])

@[simp] theorem State.excusedAt_mode (u : State) (d : DistrictId) (figure : Nat) :
    ((u.excusedAt d figure).district d).mode = .strict := by simp [State.excusedAt]

/-! ## A sample that waits for its evaluation -/

/-- In `u` the sample `x` that district `d` has taken in `s` is to be evaluated: `d` is on watch there, and the
conditions, the average and the guardian are those of the sample in `s`. -/
structure State.Judges (s : State) (d : DistrictId) (x : Nat) (u : State) : Prop where
  record : (u.district d).OnWatch
  hard : u.hardMet d x = true ↔ s.MeetsHard d x
  slow : u.slowMet d = true ↔ s.MeetsSlow d x
  average : (u.district d).average = (s.district d).averageWith x
  guardian : u.guardianLive d = s.guardianLive d

/-- After the first three steps of a sample, with a deferral resolved, the district is on watch (R29, R92). -/
theorem State.Judges.of_recorded {s : State} {d : DistrictId} {x : Nat} (reaches : s.SampleReaches d x)
    (live : (s.district d).state = .live) (grace : (s.district d).grace = false) :
    s.Judges d x ((s.recorded d x).modDistrict d (fun r => { r with deferral := none })) := by
  obtain ⟨hx, -, -, hl⟩ := reaches
  have record : (s.recorded d x).district d = (s.district d).sampled (s.dset d) x := by simp
  have lawful := (StandsAt.recorded d hx hl (hl.closed_iff.2 (.inl live))).record.lawful hl
  have average : (((s.recorded d x).modDistrict d (fun r => { r with deferral := none })).district d).average =
      (s.district d).averageWith x := by
    rw [State.district_modDistrict_same]
    exact s.recorded_average d x
  refine ⟨?_, by simp [State.hardMet], by simp only [State.slowMet, average, decide_eq_true_eq]; simp,
    average, State.guardianLive_congr (by simp) fun e => ?_⟩
  · rw [State.district_modDistrict_same]
    refine ⟨(District.Evolves.grace_over default _ id (by simp)).lawful lawful, ?_, ?_, rfl⟩
    · simpa [record, District.sampled] using live
    · simpa [record, District.sampled] using grace
  · by_cases he : e = d
    · simp [he, District.sampled]
    · simp [State.district_modDistrict_of_ne he, he]

/-- Where no deferral waits, none is resolved. -/
theorem State.recorded_undeferred {s : State} {d : DistrictId} (h : (s.district d).deferral = none) (x : Nat) :
    (s.recorded d x).modDistrict d (fun r => { r with deferral := none }) = s.recorded d x :=
  State.modDistrict_of_eq (by simp [District.sampled, h])

section Judged
variable {s u : State} {d : DistrictId} {x : Nat}

/-- A district that has been excused stays on watch with the same sample, now STRICT (R36, R92). -/
theorem State.Judges.excused (h : s.Judges d x u) (figure : Nat) : s.Judges d x (u.excusedAt d figure) := by
  rw [← State.excuse_eq_excusedAt h.record.lawful]
  obtain ⟨⟨lawful, live, grace, deferral⟩, hard, slow, average, guardian⟩ := h
  have average' : ((u.excuse d figure).district d).average = (u.district d).average := by
    simp [State.excuse, District.average]
  have guardian' : (u.excuse d figure).guardianLive d = u.guardianLive d := State.guardianLive_congr rfl fun e => by
    by_cases he : e = d
    · simp [State.excuse, he]
    · simp [State.excuse, State.district_modDistrict_of_ne he]
  refine ⟨⟨(StandsAt.excuse figure fun _ => live).record.lawful lawful, ?_, ?_, ?_⟩, hard, ?_, average'.trans average,
    guardian'.trans guardian⟩
  · simpa [State.excuse] using live
  · simpa [State.excuse] using grace
  · simpa [State.excuse] using deferral
  · rw [State.slowMet, average']
    exact slow

/-- Under a LIVE guardian a hard condition is deferred, whether or not the slow one is met (R91). -/
theorem State.Judges.defers_hard (h : s.Judges d x u) (guarded : s.guardianLive d = true) (hard : s.MeetsHard d x) :
    u.evaluatePlain d x = u.modDistrict d (fun r => { r with deferral := some { cause := .hard, figure := x } }) := by
  rw [State.evaluatePlain, if_neg (by simp [h.record.grace]), if_pos (by simp [h.hard.2 hard, h.guardian, guarded]),
    State.defer, if_pos (h.hard.2 hard)]

/-- Under a LIVE guardian a slow condition alone is deferred with the average (R91). -/
theorem State.Judges.defers_slow (h : s.Judges d x u) (guarded : s.guardianLive d = true) (hard : ¬s.MeetsHard d x)
    (slow : s.MeetsSlow d x) :
    u.evaluatePlain d x = u.modDistrict d (fun r =>
      { r with deferral := some { cause := .slow, figure := (s.district d).averageWith x } }) := by
  rw [State.evaluatePlain, if_neg (by simp [h.record.grace]), if_pos (by simp [h.slow.2 slow, h.guardian, guarded]),
    State.defer, if_neg (mt h.hard.1 hard), h.average]

/-- Without a LIVE guardian the conditions have their effect at once (R91). -/
theorem State.Judges.unguarded (h : s.Judges d x u) (free : s.guardianLive d = false) :
    u.evaluatePlain d x = u.evaluateLive d x := by
  rw [State.evaluatePlain, if_neg (by simp [h.record.grace]), if_neg (by simp [h.guardian, free])]

/-- A hard condition of a STRICT district trips it (R37). -/
theorem State.Judges.trips_hard (h : s.Judges d x u) (free : s.guardianLive d = false)
    (strict : (u.district d).mode = .strict) (hard : s.MeetsHard d x) :
    u.evaluatePlain d x = u.trippedBy d .hard x := by
  rw [h.unguarded free, State.evaluateLive, if_pos (h.hard.2 hard), if_pos strict, State.trip_eq_trippedBy h.record]

/-- A slow condition alone trips the district in either mode (R37). -/
theorem State.Judges.trips_slow (h : s.Judges d x u) (free : s.guardianLive d = false) (hard : ¬s.MeetsHard d x)
    (slow : s.MeetsSlow d x) :
    u.evaluatePlain d x = u.trippedBy d .slow ((s.district d).averageWith x) := by
  rw [h.unguarded free, State.evaluateLive, if_neg (mt h.hard.1 hard), if_pos (h.slow.2 slow),
    State.trip_eq_trippedBy h.record, h.average]

/-- A hard condition of a LENIENT district is excused (R36). -/
theorem State.Judges.excuses (h : s.Judges d x u) (free : s.guardianLive d = false)
    (lenient : (u.district d).mode = .lenient) (hard : s.MeetsHard d x) (slow : ¬s.MeetsSlow d x) :
    u.evaluatePlain d x = u.excusedAt d x := by
  rw [h.unguarded free, State.evaluateLive, if_pos (h.hard.2 hard), if_neg (by simp [lenient]),
    if_neg (mt h.slow.1 slow),
    State.excuse_eq_excusedAt h.record.lawful]

/-- A slow condition met with the excused one still trips the district, now STRICT (R38). -/
theorem State.Judges.excuses_and_trips (h : s.Judges d x u) (free : s.guardianLive d = false)
    (lenient : (u.district d).mode = .lenient) (hard : s.MeetsHard d x) (slow : s.MeetsSlow d x) :
    u.evaluatePlain d x = (u.excusedAt d x).trippedBy d .slow ((s.district d).averageWith x) := by
  rw [h.unguarded free, State.evaluateLive, if_pos (h.hard.2 hard), if_neg (by simp [lenient]), if_pos (h.slow.2 slow),
    State.excuse_eq_excusedAt h.record.lawful, State.trip_eq_trippedBy (h.excused x).record, h.average]

/-- A sample that meets neither condition is left at that (R35). -/
theorem State.Judges.quiet (h : s.Judges d x u) (hard : ¬s.MeetsHard d x) (slow : ¬s.MeetsSlow d x) :
    u.evaluatePlain d x = u := by
  have unmet : u.hardMet d x = false := Bool.eq_false_iff.2 (mt h.hard.1 hard)
  have unmet' : u.slowMet d = false := Bool.eq_false_iff.2 (mt h.slow.1 slow)
  simp [State.evaluatePlain, State.evaluateLive, unmet, unmet']

end Judged

/-! ## The evaluation of a PLAIN and of a REVERSING district (R34, R80, R92) -/

theorem State.evaluatePartner_of_undeferred {u : State} {d : DistrictId} (grace : (u.district d).grace = false)
    (h : (u.district d).deferral = none) (x : Nat) : u.evaluatePartner d x = u.evaluatePlain d x := by
  rw [State.evaluatePartner, if_neg (by simp [grace]), h]

/-- A deferral is resolved first, and the sample evaluated where the district is still LIVE (R92). -/
theorem State.evaluatePartner_of_deferred {u : State} {d : DistrictId} (grace : (u.district d).grace = false)
    {df : Deferral} (h : (u.district d).deferral = some df) (x : Nat) :
    u.evaluatePartner d x =
      if ((u.resolveDeferral d df).district d).state = .live then (u.resolveDeferral d df).evaluatePlain d x
      else u.resolveDeferral d df := by
  rw [State.evaluatePartner, if_neg (by simp [grace]), h]

section Plain
variable {s : State} {d : DistrictId} {x : Nat} (reaches : s.SampleReaches d x) (live : (s.district d).state = .live)
  (plain : (s.dset d).kind = .plain) (grace : (s.district d).grace = false)
include reaches live plain

theorem exec_sampleArrival_of_plain :
    exec (.sampleArrival d x) s = .next ((s.recorded d x).evaluatePartner d x) := by
  obtain ⟨-, -, -, hl⟩ := id reaches
  have live' : ((s.recorded d x).district d).state = .live := by simpa [District.sampled] using live
  rw [exec_sampleArrival_eq reaches (hl.closed_iff.2 (.inl live)), State.evaluate, live']
  exact congrArg _ (if_neg (by simp [plain]))

include grace

/-- A sample at a LIVE PLAIN district without a deferral. -/
theorem exec_sampleArrival_of_undeferred (deferral : (s.district d).deferral = none) :
    s.Judges d x (s.recorded d x) ∧ exec (.sampleArrival d x) s = .next ((s.recorded d x).evaluatePlain d x) := by
  have judges := State.Judges.of_recorded reaches live grace
  rw [State.recorded_undeferred deferral] at judges
  exact ⟨judges, by rw [exec_sampleArrival_of_plain reaches live plain,
    State.evaluatePartner_of_undeferred judges.record.grace judges.record.deferral]⟩

/-- A sample at a LIVE PLAIN district that holds a deferral (R92). -/
theorem exec_sampleArrival_of_deferred {df : Deferral} (deferral : (s.district d).deferral = some df) :
    exec (.sampleArrival d x) s =
      .next (if (((s.recorded d x).resolveDeferral d df).district d).state = .live then
        ((s.recorded d x).resolveDeferral d df).evaluatePlain d x else (s.recorded d x).resolveDeferral d df) := by
  rw [exec_sampleArrival_of_plain reaches live plain, State.evaluatePartner_of_deferred]
  · simpa [District.sampled] using grace
  · simpa [District.sampled] using deferral

/-- A HARD deferral of a LENIENT district is excused, and the new sample evaluated (R92). -/
theorem exec_sampleArrival_excuses_deferral {df : Deferral} (deferral : (s.district d).deferral = some df)
    (hard : df.cause = .hard) (lenient : (s.district d).mode = .lenient) {u : State}
    (hu : u = ((s.recorded d x).modDistrict d (fun r => { r with deferral := none })).excusedAt d df.figure) :
    s.Judges d x u ∧ exec (.sampleArrival d x) s = .next (u.evaluatePlain d x) := by
  have judges := State.Judges.of_recorded reaches live grace
  have mode : (((s.recorded d x).modDistrict d (fun r => { r with deferral := none })).district d).mode = .lenient := by
    simpa [District.sampled] using lenient
  have resolved : (s.recorded d x).resolveDeferral d df = u := by
    rw [State.resolveDeferral, if_pos ⟨hard, mode⟩, State.excuse_eq_excusedAt judges.record.lawful, hu]
  have judges' : s.Judges d x u := hu ▸ judges.excused df.figure
  refine ⟨judges', ?_⟩
  rw [exec_sampleArrival_of_deferred reaches live plain grace deferral, resolved, if_pos judges'.record.live]

/-- Any other deferral trips the district, which ends the sample (R92). -/
theorem exec_sampleArrival_trips_deferral {df : Deferral} (deferral : (s.district d).deferral = some df)
    (trips : df.cause = .slow ∨ (s.district d).mode = .strict) :
    exec (.sampleArrival d x) s =
      .next (((s.recorded d x).modDistrict d (fun r => { r with deferral := none })).trippedBy d df.cause
        df.figure) := by
  have judges := State.Judges.of_recorded reaches live grace
  have mode : (((s.recorded d x).modDistrict d (fun r => { r with deferral := none })).district d).mode =
      (s.district d).mode := by simp [District.sampled]
  have resolved : (s.recorded d x).resolveDeferral d df =
      ((s.recorded d x).modDistrict d (fun r => { r with deferral := none })).trip d df.cause df.figure := by
    rw [State.resolveDeferral, if_neg]
    rw [mode]
    rcases trips with k | k <;> simp [k]
  rw [exec_sampleArrival_of_deferred reaches live plain grace deferral, resolved,
    if_neg (State.trip_state _ _ _ _), State.trip_eq_trippedBy judges.record]

end Plain

/-- A slow condition alone at a LIVE REVERSING district that does not swap on slow trips it (R80). -/
theorem exec_sampleArrival_trips_reversing {s : State} {d : DistrictId} {x : Nat} (reaches : s.SampleReaches d x)
    (live : (s.district d).state = .live) (reversing : (s.dset d).kind = .reversing)
    (grace : (s.district d).grace = false) (deferral : (s.district d).deferral = none)
    (off : (s.dset d).swapOnSlow = false) (hard : ¬s.MeetsHard d x) (slow : s.MeetsSlow d x) :
    exec (.sampleArrival d x) s = .next ((s.recorded d x).trippedBy d .slow ((s.district d).averageWith x)) := by
  obtain ⟨-, -, -, hl⟩ := id reaches
  have judges := State.Judges.of_recorded reaches live grace
  rw [State.recorded_undeferred deferral] at judges
  rw [exec_sampleArrival_eq reaches (hl.closed_iff.2 (.inl live)), State.evaluate, judges.record.live]
  dsimp only
  rw [if_pos (by simp [reversing]), State.evaluateReversing, if_neg (mt judges.hard.1 hard),
    if_pos (judges.slow.2 slow), if_neg (by simp [off]), State.trip_eq_trippedBy judges.record,
    judges.average]

/-! ## The statements -/

/-- Settles O21: the excuse, and the trip of a slow condition met with it. -/
theorem aHardConditionInLenientIsExcused : Obligations.AHardConditionInLenientIsExcused := by
  intro d x s reaches live plain grace deferral unguarded lenient hard
  obtain ⟨judges, evaluated⟩ := exec_sampleArrival_of_undeferred reaches live plain grace deferral
  have free := State.guardianLive_of_unguarded unguarded
  have lenient' : ((s.recorded d x).district d).mode = .lenient := by simpa [District.sampled] using lenient
  rw [evaluated]
  exact ⟨fun slow => by rw [judges.excuses free lenient' hard slow],
    fun slow => by rw [judges.excuses_and_trips free lenient' hard slow]⟩

/-- Settles O22: a hard condition of a STRICT PLAIN district, and a slow one alone at a PLAIN or REVERSING one. -/
theorem aTripOpensTheSwitch : Obligations.ATripOpensTheSwitch := by
  refine ⟨⟨rfl, rfl⟩, fun d x s reaches live grace deferral unguarded =>
    ⟨fun plain strict hard => ?_, fun hard slow kinds => ?_⟩⟩
  · obtain ⟨judges, evaluated⟩ := exec_sampleArrival_of_undeferred reaches live plain grace deferral
    rw [evaluated, judges.trips_hard (State.guardianLive_of_unguarded unguarded)
      (by simpa [District.sampled] using strict) hard]
  · obtain ⟨-, -, used, -⟩ := id reaches
    cases kind : (s.dset d).kind with
    | plain =>
      obtain ⟨judges, evaluated⟩ := exec_sampleArrival_of_undeferred reaches live kind grace deferral
      rw [evaluated, judges.trips_slow (State.guardianLive_of_unguarded unguarded) hard slow]
    | reversing =>
      exact exec_sampleArrival_trips_reversing reaches live kind grace deferral (kinds.resolve_left (by simp [kind]))
        hard slow
    | unused => exact absurd kind used

/-- Settles O28: a deferral under a LIVE guardian, its resolution, and the evaluation that follows an excuse. -/
theorem aPartnerDefersAndThenResolves : Obligations.APartnerDefersAndThenResolves := by
  intro d x s reaches live plain grace
  refine ⟨fun v partner guard deferral => ?_, fun df deferral => ⟨fun trips => ?_, fun cause lenient hard slow => ?_,
    fun cause lenient u hu => ?_⟩⟩
  · obtain ⟨judges, evaluated⟩ := exec_sampleArrival_of_undeferred reaches live plain grace deferral
    have guarded := State.guardianLive_of_partner partner guard
    rw [evaluated]
    exact ⟨fun hard => by rw [judges.defers_hard guarded hard],
      fun hard slow => by rw [judges.defers_slow guarded hard slow]⟩
  · exact exec_sampleArrival_trips_deferral reaches live plain grace deferral trips
  · obtain ⟨judges, evaluated⟩ :=
      exec_sampleArrival_excuses_deferral reaches live plain grace deferral cause lenient rfl
    rw [evaluated, judges.quiet hard slow]
  · obtain ⟨judges, evaluated⟩ := exec_sampleArrival_excuses_deferral reaches live plain grace deferral cause lenient hu
    rw [evaluated]
    refine ⟨fun v partner guard => ?_, fun unguarded => ?_⟩
    · have guarded := State.guardianLive_of_partner partner guard
      exact ⟨fun hard => by rw [judges.defers_hard guarded hard],
        fun hard slow => by rw [judges.defers_slow guarded hard slow]⟩
    · have free := State.guardianLive_of_unguarded unguarded
      exact ⟨fun hard => by rw [judges.trips_hard free (by simp [hu]) hard],
        fun hard slow => by rw [judges.trips_slow free hard slow]⟩

end Sys2Proof.Machine
end

section
/-! # Snapshots (R42 to R44, R46, R106) -/

namespace Sys2Proof.Machine

/-! ## What a snapshot copies and starts again (R42 to R44, R106) -/

/-- A district's record after a snapshot (R43, R44). -/
theorem State.takeSnapshot_district (p : Port) (keep : Bool) (s : State) (d : DistrictId) :
    (State.takeSnapshot p keep s).1.district d =
      if keep = true then (s.district d).copyFigures else (s.district d).copyFigures.restartFigures := by
  simp [State.takeSnapshot, State.post, State.district]

/-- SNAPSHOT clears the edge flags of every feed, SNAPSHOT_KEEP none (R44, R106). -/
theorem State.takeSnapshot_feed (p : Port) (keep : Bool) (s : State) (f : FeedId) :
    (State.takeSnapshot p keep s).1.feed f = if keep = true then s.feed f else (s.feed f).clearEdges := by
  cases keep <;> simp [State.takeSnapshot, State.post, State.feed]

/-- The header holds the edge flags of every feed as they stood (R42). -/
theorem State.takeSnapshot_edges (p : Port) (keep : Bool) (s : State) (f : FeedId) :
    (State.takeSnapshot p keep s).1.snapshot.fell[f.val]'(f.isLt) = (s.feed f).fell ∧
      (State.takeSnapshot p keep s).1.snapshot.rose[f.val]'(f.isLt) = (s.feed f).rose := by
  simp [State.takeSnapshot, State.feed]

/-- A snapshot command that its port may send: its owner's effect, and the time in the answer (R43, R44). -/
theorem exec_snapshot_eq {s : State} {p : Port} {keep : Bool} {i : Instr} {c : Command}
    (h : i = .snapshot p ∧ c = .snapshot ∧ keep = false ∨ i = .snapshotKeep p ∧ c = .snapshotKeep ∧ keep = true)
    (may : s.MayRequest p c) :
    exec i s = .next ((State.takeSnapshot p keep s).1.respond p c.code { status := .ok, data := halfBytes s.now }) := by
  rcases h with ⟨rfl, rfl, rfl⟩ | ⟨rfl, rfl, rfl⟩ <;> exact congrArg _ (may.serve rfl _)

/-! ## What READ_SNAPSHOT answers (R46) -/

theorem SnapHeader.edges_eq (h : SnapHeader) : h.edges = flagsNumber (h.fell.toList ++ h.rose.toList) := by
  have four : ∀ v : Vector Bool 4, v.toList = [v[0], v[1], v[2], v[3]] := by decide
  rw [four, four]
  simp only [SnapHeader.edges, flagsNumber, bit, List.cons_append, List.nil_append]
  omega

theorem SnapKind.code_byte (k : SnapKind) :
    byteOf k.code = match k with
      | .none => 0
      | .snapshot => 1
      | .keep => 2 := by
  cases k <;> rfl

theorem byteOf_bit (b : Bool) : byteOf (bit b) = if b = true then 1 else 0 := by cases b <;> rfl

/-- Settles O47: each field of the snapshot is read off, and the 17 bytes are those of the header and the copy. -/
theorem snapshotsCopyEveryDistrict : Obligations.SnapshotsCopyEveryDistrict := by
  refine ⟨rfl, fun p s => ⟨fun keep i c kinds may => ?_, fun may d h y hh hy => ?_⟩⟩
  · refine ⟨(State.takeSnapshot p keep s).1, exec_snapshot_eq kinds may, rfl, rfl, rfl,
      State.takeSnapshot_edges p keep s, fun d => ?_, fun f => ?_, ⟨?_, ?_⟩, rfl, rfl, rfl, rfl, rfl, rfl, rfl⟩
    · rw [State.takeSnapshot_district]
      cases keep <;> rfl
    · rw [State.takeSnapshot_feed]
      rfl
    · cases keep <;> rfl
    · cases keep <;> rfl
  · subst hh hy
    show Host.Outcome.next (s.serve (.readSnapshot p (byteOf d.val)) _) = _
    rw [may.serve rfl]
    simp only [districtOf_byteOf, Option.map_some, readReply, State.snapshotBytes, SnapHeader.edges_eq,
      SnapKind.code_byte, byteOf_bit]
    rfl

end Sys2Proof.Machine
end

section
/-! # Queues, pools and slots: what the arbiter's laws read, and what keeps it (R56, R108 to R110) -/

namespace Sys2Proof.Machine

/-! ## The books: a district's share in its feed's pool and slots -/

/-- The two records have the same state and hold the same cost and slot. -/
structure District.SameBooks (r r' : District) : Prop where
  state : r'.state = r.state
  soak : r'.soak.isSome = r.soak.isSome
  cost : r'.heldCost = r.heldCost
  alone : r'.soaksAlone = r.soaksAlone

theorem District.SameBooks.of_eq {r r' : District} (hs : r'.state = r.state) (hk : r'.soak = r.soak) :
    r.SameBooks r' := ⟨hs, by rw [hk], by rw [District.heldCost, hk]; rfl, by rw [District.soaksAlone, hk]; rfl⟩

theorem District.SameBooks.refl (r : District) : r.SameBooks r := .of_eq rfl rfl

theorem District.SameBooks.trans {r r' r'' : District} (h : r.SameBooks r') (k : r'.SameBooks r'') :
    r.SameBooks r'' :=
  ⟨k.state.trans h.state, k.soak.trans h.soak, k.cost.trans h.cost, k.alone.trans h.alone⟩

/-- The record has no part in a queue, a pool or the slots: it is neither QUEUED nor SOAKING. -/
structure District.Apart (r : District) : Prop where
  not_queued : r.state ≠ .queued
  not_soaking : r.state ≠ .soaking
  soak : r.soak = none

theorem District.Apart.heldCost {r : District} (h : r.Apart) : r.heldCost = 0 := by simp [District.heldCost, h.soak]

theorem District.Apart.soaksAlone {r : District} (h : r.Apart) : r.soaksAlone = false := by
  simp [District.soaksAlone, h.soak]

theorem District.Apart.of_books {r r' : District} (h : r.SameBooks r') (k : r.Apart) : r'.Apart :=
  ⟨h.state ▸ k.not_queued, h.state ▸ k.not_soaking, by
    rw [← Option.not_isSome_iff_eq_none, h.soak, k.soak]; simp⟩

theorem District.SameBooks.symm {r r' : District} (h : r.SameBooks r') : r'.SameBooks r :=
  ⟨h.state.symm, h.soak.symm, h.cost.symm, h.alone.symm⟩

/-- A record that enters a state other than QUEUED and SOAKING stands apart (R6). -/
theorem District.enter_apart (r : District) {st : DState} (hq : st ≠ .queued) (hs : st ≠ .soaking) :
    (r.enter st).Apart := ⟨by simpa using hq, by simpa using hs, by simp [hs]⟩

/-- The cost that district `d` holds in the pool of feed `f`. -/
def State.costAt (s : State) (f : FeedId) (d : DistrictId) : Nat :=
  if s.feedOfDistrict d = f then (s.district d).heldCost else 0

/-- The slot that district `d` holds on feed `f`. -/
def State.slotAt (s : State) (f : FeedId) (d : DistrictId) : Nat :=
  if s.feedOfDistrict d = f ∧ (s.district d).soaksAlone = true then 1 else 0

/-! ## Sums over the districts -/

theorem allDistricts_eq_finRange : allDistricts = List.finRange 16 := by decide

/-- The sum over the districts that pass a test. -/
theorem sum_filter_districts (p : DistrictId → Bool) (g : DistrictId → Nat) :
    ((allDistricts.filter p).map g).sum = ∑ d, if p d = true then g d else 0 := by
  have split := List.sum_map_ite (fun d => p d = true) g (fun _ => 0) allDistricts
  rw [Fin.sum_univ_def, ← allDistricts_eq_finRange, split]
  simp

/-- Two sums over the districts that differ at one district alone. -/
theorem sum_districts_change {g g' : DistrictId → Nat} (d : DistrictId) (h : ∀ e, e ≠ d → g' e = g e) :
    ∑ e, g' e + g d = ∑ e, g e + g' d := by
  have rest : ∑ e ∈ Finset.univ.erase d, g' e = ∑ e ∈ Finset.univ.erase d, g e :=
    Finset.sum_congr rfl fun e he => h e (Finset.ne_of_mem_erase he)
  have whole := Finset.add_sum_erase Finset.univ g (Finset.mem_univ d)
  have whole' := Finset.add_sum_erase Finset.univ g' (Finset.mem_univ d)
  omega

theorem le_sum_districts (g : DistrictId → Nat) (d : DistrictId) : g d ≤ ∑ e, g e := by
  have whole := Finset.add_sum_erase Finset.univ g (Finset.mem_univ d)
  omega

/-! ## The two laws together, as sums -/

/-- The laws of queues, pools and slots hold (R56, R108 to R110). -/
structure State.Balanced (s : State) : Prop where
  queue : s.QueueLaw
  pool : s.PoolLaw

/-- The costs of the SOAKING districts of a feed, as a sum over all districts. -/
theorem State.sum_heldCost {s : State} (h : ∀ d, (s.district d).soak.isSome = true ↔ (s.district d).state = .soaking)
    (f : FeedId) : ((s.inState f .soaking).map (fun d => (s.district d).heldCost)).sum = ∑ d, s.costAt f d := by
  rw [State.inState, State.districtsOf, List.filter_filter, sum_filter_districts]
  refine Finset.sum_congr rfl fun d _ => ?_
  by_cases hs : (s.district d).state = .soaking
  · simp [State.costAt, hs]
  · have none : (s.district d).soak = none := by rw [← Option.not_isSome_iff_eq_none, h]; exact hs
    simp [State.costAt, hs, District.heldCost, none]

/-- The INDIVIDUAL soaks of a feed, counted over all districts. -/
theorem State.count_soaksAlone {s : State}
    (h : ∀ d, (s.district d).soak.isSome = true ↔ (s.district d).state = .soaking) (f : FeedId) :
    ((s.inState f .soaking).filter (fun d => (s.district d).soaksAlone)).length = ∑ d, s.slotAt f d := by
  have ones : ∀ l : List DistrictId, l.length = (l.map (fun _ => 1)).sum := fun l => by simp
  rw [ones, State.inState, State.districtsOf, List.filter_filter, List.filter_filter, sum_filter_districts]
  refine Finset.sum_congr rfl fun d _ => ?_
  by_cases hs : (s.district d).state = .soaking
  · simp [State.slotAt, hs, and_comm]
  · have none : (s.district d).soak = none := by rw [← Option.not_isSome_iff_eq_none, h]; exact hs
    simp [State.slotAt, District.soaksAlone, none]

/-- The pool law with its sums over all districts. -/
theorem State.poolLaw_iff (s : State) :
    s.PoolLaw ↔ (∀ d, (s.district d).soak.isSome = true ↔ (s.district d).state = .soaking) ∧
      ∀ f, (s.feed f).pool = ∑ d, s.costAt f d ∧ (s.feed f).pool ≤ (s.fset f).p ∧
        (s.feed f).slots = ∑ d, s.slotAt f d ∧ (s.feed f).slots ≤ (s.fset f).s := by
  refine and_congr_right fun h => forall_congr' fun f => ?_
  rw [State.sum_heldCost h, State.count_soaksAlone h]

namespace State.Balanced
variable {s t : State}

theorem soak_iff (h : s.Balanced) (d : DistrictId) :
    (s.district d).soak.isSome = true ↔ (s.district d).state = .soaking := h.pool.1 d

theorem nodup (h : s.Balanced) (f : FeedId) : (s.feed f).queue.Nodup := (h.queue f).1

theorem mem_queue (h : s.Balanced) (f : FeedId) (d : DistrictId) :
    d ∈ (s.feed f).queue ↔ (s.district d).state = .queued ∧ s.feedOfDistrict d = f := (h.queue f).2 d

theorem feed_sums (h : s.Balanced) (f : FeedId) :
    (s.feed f).pool = ∑ d, s.costAt f d ∧ (s.feed f).pool ≤ (s.fset f).p ∧
      (s.feed f).slots = ∑ d, s.slotAt f d ∧ (s.feed f).slots ≤ (s.fset f).s := (s.poolLaw_iff.1 h.pool).2 f

/-- A district that is neither QUEUED nor SOAKING stands apart. -/
theorem apart (h : s.Balanced) {d : DistrictId} (hq : (s.district d).state ≠ .queued)
    (hs : (s.district d).state ≠ .soaking) : (s.district d).Apart :=
  ⟨hq, hs, by rw [← Option.not_isSome_iff_eq_none, h.soak_iff]; exact hs⟩

/-- The pool holds the cost of each SOAKING district of its feed. -/
theorem heldCost_le (h : s.Balanced) (d : DistrictId) :
    (s.district d).heldCost ≤ (s.feed (s.feedOfDistrict d)).pool := by
  obtain ⟨pool, -⟩ := h.feed_sums (s.feedOfDistrict d)
  have one := le_sum_districts (s.costAt (s.feedOfDistrict d)) d
  rw [pool]
  simpa [State.costAt] using one

theorem slot_le (h : s.Balanced) {d : DistrictId} (ha : (s.district d).soaksAlone = true) :
    1 ≤ (s.feed (s.feedOfDistrict d)).slots := by
  obtain ⟨-, -, slots, -⟩ := h.feed_sums (s.feedOfDistrict d)
  have one := le_sum_districts (s.slotAt (s.feedOfDistrict d)) d
  rw [slots]
  simpa [State.slotAt, ha] using one

end State.Balanced

/-! ## Changes beside the books -/

/-- From `s` to `t` queues, pools, slots and feed settings stay, and each district keeps its books and its feed or has
no books before and after. -/
structure Aside (s t : State) : Prop where
  districts : ∀ d, (s.district d).SameBooks (t.district d) ∧ t.feedOfDistrict d = s.feedOfDistrict d ∨
    (s.district d).Apart ∧ (t.district d).Apart
  queue : ∀ f, (t.feed f).queue = (s.feed f).queue
  pool : ∀ f, (t.feed f).pool = (s.feed f).pool
  slots : ∀ f, (t.feed f).slots = (s.feed f).slots
  fset : ∀ f, t.fset f = s.fset f

theorem Aside.trans {s t u : State} (h : Aside s t) (k : Aside t u) : Aside s u where
  districts d := by
    rcases h.districts d with ⟨hb, hf⟩ | ⟨ha, ha'⟩ <;> rcases k.districts d with ⟨kb, kf⟩ | ⟨ka, ka'⟩
    · exact .inl ⟨hb.trans kb, kf.trans hf⟩
    · exact .inr ⟨ka.of_books hb.symm, ka'⟩
    · exact .inr ⟨ha, ha'.of_books kb⟩
    · exact .inr ⟨ha, ka'⟩
  queue f := (k.queue f).trans (h.queue f)
  pool f := (k.pool f).trans (h.pool f)
  slots f := (k.slots f).trans (h.slots f)
  fset f := (k.fset f).trans (h.fset f)

/-- States with the same district records, feed records and settings of districts and feeds. -/
theorem Aside.of_eq {s t : State} (hd : ∀ d, t.district d = s.district d) (hf : ∀ f, t.feed f = s.feed f)
    (hs : ∀ d, t.dset d = s.dset d) (hk : ∀ f, t.fset f = s.fset f) : Aside s t where
  districts d := .inl ⟨by rw [hd]; exact .refl _, by simp [State.feedOfDistrict, hs]⟩
  queue f := by rw [hf]
  pool f := by rw [hf]
  slots f := by rw [hf]
  fset := hk

theorem Aside.refl (s : State) : Aside s s := .of_eq (fun _ => rfl) (fun _ => rfl) (fun _ => rfl) (fun _ => rfl)

theorem Aside.post (s : State) (ev : Event) : Aside s (s.post ev) :=
  .of_eq (fun _ => rfl) (fun _ => rfl) (fun _ => rfl) (fun _ => rfl)

theorem Aside.modPort (s : State) (p : Port) (g : PortRecord → PortRecord) : Aside s (s.modPort p g) :=
  .of_eq (fun _ => rfl) (fun _ => rfl) (fun _ => rfl) (fun _ => rfl)

theorem Aside.modFeed (s : State) (f : FeedId) {g : Feed → Feed}
    (h : ∀ x, (g x).queue = x.queue ∧ (g x).pool = x.pool ∧ (g x).slots = x.slots) : Aside s (s.modFeed f g) where
  districts _ := .inl ⟨.refl _, rfl⟩
  queue e := by rw [State.feed_modFeed]; split <;> simp_all
  pool e := by rw [State.feed_modFeed]; split <;> simp_all
  slots e := by rw [State.feed_modFeed]; split <;> simp_all
  fset _ := rfl

theorem Aside.modWalk (s : State) (f : FeedId) (g : Walk → Walk) : Aside s (s.modWalk f g) :=
  .modFeed s f (by simp)

/-- A district's record changes, its books staying, or none there before and after. -/
theorem Aside.modDistrict (s : State) (d : DistrictId) {g : District → District}
    (h : (s.district d).SameBooks (g (s.district d)) ∨ (s.district d).Apart ∧ (g (s.district d)).Apart) :
    Aside s (s.modDistrict d g) where
  districts e := by
    rw [State.district_modDistrict]
    split
    · subst e; exact h.imp_left fun k => ⟨k, rfl⟩
    · exact .inl ⟨.refl _, rfl⟩
  queue _ := rfl
  pool _ := rfl
  slots _ := rfl
  fset _ := rfl

/-- A record is rewritten without a word on its state and its soak. -/
theorem Aside.modDistrict_of_same (s : State) (d : DistrictId) {g : District → District}
    (hs : (g (s.district d)).state = (s.district d).state) (hk : (g (s.district d)).soak = (s.district d).soak) :
    Aside s (s.modDistrict d g) := .modDistrict s d (.inl (.of_eq hs hk))

theorem Aside.foldl {α : Type} {act : State → α → State} (h : ∀ s a, Aside s (act s a)) (l : List α) (s : State) :
    Aside s (l.foldl act s) := by
  induction l generalizing s with
  | nil => exact .refl s
  | cons a l ih => exact (h s a).trans (ih _)

/-- A district that stands apart stays apart. -/
theorem Aside.apart {s t : State} (h : Aside s t) {d : DistrictId} (k : (s.district d).Apart) :
    (t.district d).Apart := (h.districts d).elim (fun e => k.of_books e.1) (fun e => e.2)

theorem Aside.costAt {s t : State} (h : Aside s t) (f : FeedId) (d : DistrictId) : t.costAt f d = s.costAt f d := by
  unfold State.costAt
  rcases h.districts d with ⟨hb, hf⟩ | ⟨ha, ha'⟩
  · rw [hf, hb.cost]
  · simp [ha.heldCost, ha'.heldCost]

theorem Aside.slotAt {s t : State} (h : Aside s t) (f : FeedId) (d : DistrictId) : t.slotAt f d = s.slotAt f d := by
  unfold State.slotAt
  rcases h.districts d with ⟨hb, hf⟩ | ⟨ha, ha'⟩
  · rw [hf, hb.alone]
  · simp [ha.soaksAlone, ha'.soaksAlone]

/-- A change beside the books keeps them balanced. -/
theorem State.Balanced.aside {s t : State} (h : s.Balanced) (k : Aside s t) : t.Balanced where
  queue f := by
    rw [k.queue]
    refine ⟨h.nodup f, fun d => (h.mem_queue f d).trans ?_⟩
    rcases k.districts d with ⟨hb, hf⟩ | ⟨ha, ha'⟩
    · rw [hb.state, hf]
    · simp [ha.not_queued, ha'.not_queued]
  pool := by
    refine t.poolLaw_iff.2 ⟨fun d => ?_, fun f => ?_⟩
    · rcases k.districts d with ⟨hb, -⟩ | ⟨-, ha'⟩
      · rw [hb.state, hb.soak, h.soak_iff]
      · simp [ha'.soak, ha'.not_soaking]
    · rw [k.pool, k.slots, k.fset, Finset.sum_congr rfl fun d _ => k.costAt f d,
        Finset.sum_congr rfl fun d _ => k.slotAt f d]
      exact h.feed_sums f

/-! ## One district's books change -/

/-- The books of district `d` on feed `f` change as its feed's do: the laws still hold (R108 to R110). -/
structure Transfers (f : FeedId) (d : DistrictId) (s t : State) : Prop where
  before : s.feedOfDistrict d = f
  after : t.feedOfDistrict d = f ∨ (t.district d).Apart
  soak_iff : (t.district d).soak.isSome = true ↔ (t.district d).state = .soaking
  others : ∀ e, e ≠ d → (s.district e).SameBooks (t.district e) ∧ t.feedOfDistrict e = s.feedOfDistrict e
  otherFeeds : ∀ g, g ≠ f → t.feed g = s.feed g
  fset : ∀ g, t.fset g = s.fset g
  nodup : (t.feed f).queue.Nodup
  mem_queue : ∀ e, e ∈ (t.feed f).queue ↔ if e = d then (t.district d).state = .queued else e ∈ (s.feed f).queue
  pool : (t.feed f).pool + (s.district d).heldCost = (s.feed f).pool + (t.district d).heldCost
  pool_le : (t.feed f).pool ≤ (t.fset f).p
  slots : (t.feed f).slots + bit (s.district d).soaksAlone = (s.feed f).slots + bit (t.district d).soaksAlone
  slots_le : (t.feed f).slots ≤ (t.fset f).s

theorem Transfers.sum_costAt {f : FeedId} {d : DistrictId} {s t : State} (k : Transfers f d s t) (g : FeedId) :
    ∑ e, t.costAt g e + s.costAt g d = ∑ e, s.costAt g e + t.costAt g d :=
  sum_districts_change d fun e he => by
    obtain ⟨hb, hf⟩ := k.others e he
    rw [State.costAt, State.costAt, hf, hb.cost]

theorem Transfers.sum_slotAt {f : FeedId} {d : DistrictId} {s t : State} (k : Transfers f d s t) (g : FeedId) :
    ∑ e, t.slotAt g e + s.slotAt g d = ∑ e, s.slotAt g e + t.slotAt g d :=
  sum_districts_change d fun e he => by
    obtain ⟨hb, hf⟩ := k.others e he
    rw [State.slotAt, State.slotAt, hf, hb.alone]

/-- What the district holds on feed `g` after the change: nothing on any other feed than `f`. -/
theorem Transfers.shares {f : FeedId} {d : DistrictId} {s t : State} (k : Transfers f d s t) (g : FeedId) :
    (s.costAt g d = if g = f then (s.district d).heldCost else 0) ∧
      (t.costAt g d = if g = f then (t.district d).heldCost else 0) ∧
      (s.slotAt g d = if g = f then bit (s.district d).soaksAlone else 0) ∧
      (t.slotAt g d = if g = f then bit (t.district d).soaksAlone else 0) := by
  have flag : ∀ b : Bool, (if b = true then 1 else 0) = bit b := fun b => by cases b <;> rfl
  unfold State.costAt State.slotAt
  rw [k.before]
  rcases k.after with hf | ha
  · rw [hf]
    by_cases hg : g = f
    · subst hg; simp [flag]
    · simp [hg, Ne.symm hg]
  · rw [ha.heldCost, ha.soaksAlone]
    by_cases hg : g = f
    · subst hg; simp [flag, show bit false = 0 from rfl]
    · simp [hg, Ne.symm hg]

theorem State.Balanced.transfers {f : FeedId} {d : DistrictId} {s t : State} (h : s.Balanced) (k : Transfers f d s t) :
    t.Balanced where
  queue g := by
    by_cases hg : g = f
    · subst hg
      refine ⟨k.nodup, fun e => (k.mem_queue e).trans ?_⟩
      split
      case isTrue he =>
        subst he
        rcases k.after with hf | ha
        · simp [hf]
        · simp [ha.not_queued]
      case isFalse he =>
        obtain ⟨hb, hf⟩ := k.others e he
        rw [h.mem_queue, hb.state, hf]
    · rw [k.otherFeeds g hg]
      refine ⟨h.nodup g, fun e => (h.mem_queue g e).trans ?_⟩
      by_cases he : e = d
      · subst he
        rcases k.after with hf | ha
        · simp [hf, k.before, Ne.symm hg]
        · simp [ha.not_queued, k.before, Ne.symm hg]
      · obtain ⟨hb, hf⟩ := k.others e he
        rw [hb.state, hf]
  pool := by
    refine t.poolLaw_iff.2 ⟨fun e => ?_, fun g => ?_⟩
    · by_cases he : e = d
      · exact he ▸ k.soak_iff
      · obtain ⟨hb, -⟩ := k.others e he
        rw [hb.state, hb.soak, h.soak_iff]
    · have costs := k.sum_costAt g
      have slots := k.sum_slotAt g
      obtain ⟨c1, c2, c3, c4⟩ := k.shares g
      obtain ⟨p1, p2, p3, p4⟩ := h.feed_sums g
      by_cases hg : g = f
      · subst hg
        have := k.pool
        have := k.slots
        simp only [if_true] at c1 c2 c3 c4
        exact ⟨by omega, k.pool_le, by omega, k.slots_le⟩
      · simp only [hg, if_false] at c1 c2 c3 c4
        rw [k.otherFeeds g hg, k.fset]
        exact ⟨by omega, p2, by omega, p4⟩

end Sys2Proof.Machine
end

section
/-! # Queues, pools and slots under the arbiter (R53, R55, R108, R111) -/

namespace Sys2Proof.Machine

/-! ## Leaving a queue, and a set that moves its district -/

/-- A district that leaves its feed's queue, or was in none, for a state apart from the books (R108). -/
theorem Transfers.leaves {f : FeedId} {d : DistrictId} {s t : State} (h : s.Balanced) (hf : s.feedOfDistrict d = f)
    (hs : (s.district d).state ≠ .soaking) (apart : (t.district d).Apart)
    (others : ∀ e, e ≠ d → (s.district e).SameBooks (t.district e) ∧ t.feedOfDistrict e = s.feedOfDistrict e)
    (otherFeeds : ∀ g, g ≠ f → t.feed g = s.feed g) (fset : ∀ g, t.fset g = s.fset g)
    (feed : t.feed f = { s.feed f with queue := (s.feed f).queue.filter (fun e => e != d) }) : Transfers f d s t := by
  have none : (s.district d).soak = Option.none := by rw [← Option.not_isSome_iff_eq_none, h.soak_iff]; exact hs
  obtain ⟨-, pool, -, slots⟩ := h.feed_sums f
  refine ⟨hf, .inr apart, by simp [apart.soak, apart.not_soaking], others, otherFeeds, fset, ?_, fun e => ?_, ?_, ?_,
    ?_, ?_⟩ <;> rw [feed]
  · exact (h.nodup f).filter _
  · by_cases he : e = d
    · simp [he, apart.not_queued]
    · simp [he]
  · simp [District.heldCost, none, apart.soak]
  · rw [fset]; exact pool
  · simp [District.soaksAlone, none, apart.soak]
  · rw [fset]; exact slots

/-- From `s` to `v` the books stay, and each district but `d` stays on its feed. -/
structure Moved (d : DistrictId) (s v : State) : Prop where
  books : ∀ e, (s.district e).SameBooks (v.district e)
  others : ∀ e, e ≠ d → v.feedOfDistrict e = s.feedOfDistrict e
  feed : ∀ g, v.feed g = s.feed g
  fset : ∀ g, v.fset g = s.fset g

theorem Moved.refl (d : DistrictId) (s : State) : Moved d s s :=
  ⟨fun _ => .refl _, fun _ _ => rfl, fun _ => rfl, fun _ => rfl⟩

/-- A district that stays on its feed, or stands apart, has moved nothing. -/
theorem Moved.aside {d : DistrictId} {s v : State} (k : Moved d s v)
    (h : v.feedOfDistrict d = s.feedOfDistrict d ∨ (s.district d).Apart) : Aside s v where
  districts e := by
    by_cases he : e = d
    · subst he
      exact h.imp (fun hf => ⟨k.books e, hf⟩) (fun ha => ⟨ha, ha.of_books (k.books e)⟩)
    · exact .inl ⟨k.books e, k.others e he⟩
  queue g := by rw [k.feed]
  pool g := by rw [k.feed]
  slots g := by rw [k.feed]
  fset := k.fset

/-- A copy installs a set and rewrites records beside their books (R151). -/
theorem Moved.setCopied (s : State) (d : DistrictId) : Moved d s (s.setCopied d) where
  books e := by rw [State.setCopied_district]; exact .of_eq rfl rfl
  others e he := by simp [State.feedOfDistrict, State.setCopied_dset, he]
  feed _ := rfl
  fset _ := rfl

theorem Moved.straightened {d : DistrictId} {s v : State} (k : Moved d s v) : Moved d s (v.straightened d) where
  books e := by
    refine (k.books e).trans ?_
    by_cases he : e = d
    · subst he; rw [State.straightened_district]; exact .of_eq rfl rfl
    · rw [State.straightened, State.district_modDistrict_of_ne he]; exact .refl _
  others := k.others
  feed := k.feed
  fset := k.fset

/-! ## Grants, joins and returns -/

namespace State.Balanced
variable {s t : State}

theorem soak_none (h : s.Balanced) {d : DistrictId} (hs : (s.district d).state ≠ .soaking) :
    (s.district d).soak = none := by rw [← Option.not_isSome_iff_eq_none, h.soak_iff]; exact hs

/-- The head of the queue is granted: it takes its cost and its slot (R55, R111 step 3). -/
theorem grantHead (h : s.Balanced) {f : FeedId} {d : DistrictId} {rest : List DistrictId}
    (hq : (s.feed f).queue = d :: rest) (hc : s.canGrant f d = true) : (s.grantHead f d rest).Balanced := by
  simp only [State.canGrant, Bool.and_eq_true, decide_eq_true_eq] at hc
  obtain ⟨⟨⟨-, queued⟩, slots⟩, pool⟩ := hc
  obtain ⟨-, on⟩ := (h.mem_queue f d).1 (by simp [hq])
  have none := h.soak_none (d := d) (by simp [queued])
  have nodup := h.nodup f
  rw [hq, List.nodup_cons] at nodup
  have record : (s.grantHead f d rest).district d = (s.district d).granted (s.cost f d) (s.dset d).r := by
    simp [State.grantHead]
  have feed : (s.grantHead f d rest).feed f =
      { s.feed f with queue := rest, pool := (s.feed f).pool + s.cost f d, slots := (s.feed f).slots + 1 } := by
    simp [State.grantHead]
  refine h.transfers (f := f) (d := d) ⟨on, .inl on, ?_, fun e he => ⟨?_, rfl⟩, fun g hg => ?_, fun _ => rfl, ?_,
    fun e => ?_, ?_, ?_, ?_, ?_⟩
  · rw [record]; simp
  · rw [State.grantHead, State.district_modDistrict_of_ne he]; exact .refl _
  · simp [State.grantHead, State.feed_modFeed, hg]
  · rw [feed]; exact nodup.2
  · rw [feed, record, hq]
    by_cases he : e = d
    · subst he; simp [nodup.1]
    · simp [he]
  · rw [feed, record]; simp [District.heldCost, none]
  · rw [feed]; exact pool
  · rw [feed, record]; simp [District.soaksAlone, none, bit]
  · rw [feed]; exact slots

theorem grantLoop (h : s.Balanced) (n : Nat) (f : FeedId) : (grantLoop n f s).Balanced := by
  induction n generalizing s with
  | zero => exact h
  | succ n ih =>
    unfold Machine.grantLoop
    split
    · exact h
    · split
      · exact ih (h.grantHead ‹_› ‹_›)
      · exact h

theorem runGrantRule (h : s.Balanced) (f : FeedId) : (s.runGrantRule f).Balanced := h.grantLoop _ f

/-- A district that stands apart joins the tail of its feed's queue (R53, R108). -/
theorem enqueue (h : s.Balanced) {f : FeedId} {d : DistrictId} (hf : s.feedOfDistrict d = f)
    (ha : (s.district d).Apart) : (s.enqueue f d).Balanced := by
  have out : d ∉ (s.feed f).queue := fun k => ha.not_queued ((h.mem_queue f d).1 k).1
  have record : (s.enqueue f d).district d = (s.district d).enter .queued := by simp [State.enqueue]
  have feed : (s.enqueue f d).feed f = { s.feed f with queue := (s.feed f).queue ++ [d] } := by
    simp [State.enqueue]
  obtain ⟨-, pool, -, slots⟩ := h.feed_sums f
  refine h.transfers (f := f) (d := d) ⟨hf, .inl hf, ?_, fun e he => ⟨?_, rfl⟩, fun g hg => ?_, fun _ => rfl, ?_,
    fun e => ?_, ?_, ?_, ?_, ?_⟩
  · rw [record]; simp
  · simp only [State.enqueue, State.modFeed_district, State.district_modDistrict_of_ne he]
    exact .refl _
  · simp [State.enqueue, State.feed_modFeed, hg]
  · rw [feed]
    exact List.nodup_append.2 ⟨h.nodup f, by simp, fun a ha b hb => by
      rw [List.mem_singleton] at hb
      rintro rfl
      exact out (hb ▸ ha)⟩
  · rw [feed, record]
    by_cases he : e = d
    · simp [he]
    · simp [he]
  · rw [feed, record]; simp [District.heldCost, ha.soak]
  · rw [feed]; exact pool
  · rw [feed, record]; simp [District.soaksAlone, ha.soak]
  · rw [feed]; exact slots

theorem join (h : s.Balanced) {f : FeedId} {d : DistrictId} (hf : s.feedOfDistrict d = f)
    (ha : (s.district d).Apart) : (s.join f d).Balanced := (h.enqueue hf ha).runGrantRule f

/-- A district that stands apart returns to service (R10, R15, R152). -/
theorem returnToService (h : s.Balanced) {d : DistrictId} (ha : (s.district d).Apart) :
    (s.returnToService d).Balanced := by
  unfold State.returnToService
  split
  · exact h.join rfl ha
  · exact h.aside (.modDistrict s d (.inr ⟨ha, District.enter_apart _ (by simp) (by simp)⟩))

/-- A district that is not SOAKING leaves its queue, if it is in one, whatever feed its set names now (R108, R152). -/
theorem leaveFor {v : State} {d : DistrictId} (h : s.Balanced) (k : Moved d s v)
    (hs : (s.district d).state ≠ .soaking) {st : DState} (hst : st ≠ .queued ∧ st ≠ .soaking) :
    (v.leaveFor (s.feedOfDistrict d) d st).Balanced := by
  have apart : ((v.district d).enter st).Apart := District.enter_apart _ hst.1 hst.2
  have state : (v.district d).state = (s.district d).state := (k.books d).state
  unfold State.leaveFor
  dsimp only
  split
  · refine runGrantRule (h.transfers (Transfers.leaves h rfl hs ?_ (fun e he => ⟨?_, ?_⟩) (fun g hg => ?_) (fun g => ?_)
      ?_)) _
    · simpa [State.leaveQueue] using apart
    · simpa [State.leaveQueue, State.district_modDistrict, he] using k.books e
    · exact k.others e he
    · simp [State.leaveQueue, State.feed_modFeed, hg, k.feed]
    · exact k.fset g
    · simp [State.leaveQueue, k.feed]
  case isFalse hq =>
    have ha := h.apart (d := d) (state ▸ hq) hs
    exact (h.aside (k.aside (.inr ha))).aside (.modDistrict v d (.inr ⟨ha.of_books (k.books d), apart⟩))

end State.Balanced

end Sys2Proof.Machine
end

section
/-! # Queues, pools and slots under the walker, a soak's end and the copies (chapters 03, 05 to 07) -/

namespace Sys2Proof.Machine

/-! ## The walker (chapter 06) -/

theorem Aside.latch {s : State} {d : DistrictId} (ha : (s.district d).Apart) (cause : Cause) :
    Aside s (s.latch d cause) := by
  have latched := District.enter_apart (s.district d) (st := .latched) (by simp) (by simp)
  exact (Aside.modDistrict s d (.inr ⟨ha, ⟨latched.not_queued, latched.not_soaking, latched.soak⟩⟩)).trans (.post _ _)

theorem Aside.haltWalk (s : State) (f : FeedId) (o : Origin) (why : HaltReason) : Aside s (s.haltWalk f o why) :=
  (Aside.modFeed s f (by simp)).trans (.post _ _)

theorem Aside.copyWaitingChains (s : State) : Aside s s.copyWaitingChains := by
  unfold State.copyWaitingChains
  split
  · exact .of_eq (fun _ => rfl) (fun _ => rfl) (fun _ => rfl) (fun _ => rfl)
  · exact .refl s

namespace State.Balanced
variable {s : State}

theorem apart_of_dark (h : s.Balanced) {d : DistrictId} (hd : (s.district d).state = .dark) :
    (s.district d).Apart := h.apart (by simp [hd]) (by simp [hd])

theorem settleDark (h : s.Balanced) {f : FeedId} {d : DistrictId} (hf : s.feedOfDistrict d = f)
    (hd : (s.district d).state = .dark) : (s.settleDark f d).Balanced := by
  unfold State.settleDark
  split
  · have ha := h.apart_of_dark hd
    exact h.aside ((Aside.modDistrict_of_same s d rfl rfl).trans
      (.latch (by simpa using ⟨ha.not_queued, ha.not_soaking, ha.soak⟩) _))
  · exact h.enqueue hf (h.apart_of_dark hd)

theorem settleAll (h : s.Balanced) {f : FeedId} {ds : List DistrictId} (hn : ds.Nodup)
    (hd : ∀ d ∈ ds, s.feedOfDistrict d = f ∧ (s.district d).state = .dark) :
    (ds.foldl (State.settleDark f) s).Balanced := by
  induction ds generalizing s with
  | nil => exact h
  | cons d ds ih =>
    rw [List.nodup_cons] at hn
    obtain ⟨hf, dark⟩ := hd d (by simp)
    refine ih (h.settleDark hf dark) hn.2 fun e he => ?_
    have set := (StandsAt.settleDark (e := e) f dark).dset
    rw [s.settleDark_other f (by rintro rfl; exact hn.1 he), State.feedOfDistrict, set]
    exact hd e (by simp [he])

/-- The end of a walk queues or latches the DARK districts, and the grant rule runs (R139). -/
theorem endWalk (h : s.Balanced) (f : FeedId) (o : Origin) (why : EndReason) : (s.endWalk f o why).Balanced := by
  have stopped := h.aside (Aside.modWalk s f (fun w => w.stopped why.lastEnd))
  have settled := stopped.settleAll (State.inState_nodup _ f .dark) fun d hd => (State.mem_inState _ f .dark d).1 hd
  unfold State.endWalk
  dsimp only
  refine aside (runGrantRule (aside settled (.trans (.modFeed _ f fun x => ?_) (.trans (.post _ _)
    (.modFeed _ f (by simp))))) f) (.copyWaitingChains _)
  cases why <;> exact ⟨rfl, rfl, rfl⟩

/-- A member's soak takes its cost from the pool and no slot (R75, R126). -/
theorem admitMember (h : s.Balanced) {f : FeedId} {m : DistrictId} (hf : s.feedOfDistrict m = f)
    (hm : (s.district m).state = .dark) (hp : (s.feed f).pool + s.cost f m ≤ (s.fset f).p) :
    (s.admitMember f m).Balanced := by
  have ha := h.apart_of_dark hm
  have origin : ∀ pos : Position, pos.soakOrigin ≠ .individual := fun pos => by cases pos <;> simp [Position.soakOrigin]
  have out : m ∉ (s.feed f).queue := fun k => ha.not_queued ((h.mem_queue f m).1 k).1
  have record : (s.admitMember f m).district m =
      (s.district m).startSoak (s.walk f).position.soakOrigin (s.cost f m) := by simp [State.admitMember]
  obtain ⟨queue, pool, slots⟩ : ((s.admitMember f m).feed f).queue = (s.feed f).queue ∧
      ((s.admitMember f m).feed f).pool = (s.feed f).pool + s.cost f m ∧
      ((s.admitMember f m).feed f).slots = (s.feed f).slots := by simp [State.admitMember]
  obtain ⟨-, -, -, room⟩ := h.feed_sums f
  refine h.transfers (f := f) (d := m) ⟨hf, .inl hf, ?_, fun e he => ⟨?_, rfl⟩, fun g hg => ?_, fun _ => rfl, ?_,
    fun e => ?_, ?_, ?_, ?_, ?_⟩
  · rw [record]; simp
  · rw [State.admitMember, State.district_modDistrict_of_ne he]; exact .refl _
  · simp [State.admitMember, State.feed_modFeed, hg]
  · rw [queue]; exact h.nodup f
  · rw [queue, record]
    by_cases he : e = m
    · subst he; simp [out]
    · simp [he]
  · rw [pool, record]; simp [District.heldCost, ha.soak]
  · rw [pool]; exact hp
  · rw [slots, record]; simp [District.soaksAlone, ha.soak, origin]
  · rw [slots]; exact room

theorem admitFrom (h : s.Balanced) (f : FeedId) (ms : List DistrictId) : (admitFrom f ms s).Balanced := by
  induction ms generalizing s with
  | nil => exact h
  | cons m rest ih =>
    have skip : ∀ {t : State}, t.Balanced → (t.skipMember f).Balanced := fun k => k.aside (.modWalk _ f _)
    unfold Machine.admitFrom
    dsimp only
    split
    · have skipped := skip (h.aside (Aside.modWalk s f (fun w => { w with foreignMember := true })))
      split
      · exact skipped.aside (.haltWalk _ f _ _)
      · exact ih skipped
    case isFalse hf =>
      split
      · exact ih (skip h)
      case isFalse hd =>
        split
        · exact ih (h.admitMember (not_not.1 hf) (not_not.1 (not_or.1 hd).1) ‹_›)
        · exact h.aside (.modWalk s f _)

theorem runAdmission (h : s.Balanced) (f : FeedId) : (s.runAdmission f).Balanced := h.admitFrom f _

theorem pauseOrLink {f : FeedId} {visit : Position → State → State}
    (hv : ∀ pos {t : State}, t.Balanced → (visit pos t).Balanced) (h : s.Balanced) :
    (s.pauseOrLink visit f).Balanced := by
  unfold State.pauseOrLink
  split
  · exact h.aside (.modWalk s f _)
  · split
    · exact h.endWalk f _ _
    · exact hv _ h

theorem complete {f : FeedId} {visit : Position → State → State}
    (hv : ∀ pos {t : State}, t.Balanced → (visit pos t).Balanced) (h : s.Balanced) :
    (s.complete visit f).Balanced := by
  have posted := h.aside (Aside.post s _ : Aside s (s.postEntryDone f))
  unfold State.complete
  split
  · split
    · exact posted.aside (.modWalk _ f _)
    · exact posted.pauseOrLink hv
  · exact h

theorem visit (h : s.Balanced) (n : Nat) (f : FeedId) (pos : Position) : (visit n f pos s).Balanced := by
  induction n generalizing pos s with
  | zero => exact h
  | succ n ih =>
    have moved := h.aside (Aside.modWalk s f (fun w => { w with position := pos, stepCount := w.stepCount + 1 }))
    unfold Machine.visit
    dsimp only
    split
    · exact endWalk (moved.aside (.modWalk _ f _)) f _ _
    · exact complete (fun pos _ k => ih k pos) (runAdmission (moved.aside (.modWalk _ f _)) f)

theorem visitEntry (h : s.Balanced) (f : FeedId) (pos : Position) : (s.visitEntry f pos).Balanced := h.visit _ f pos

theorem followLink (h : s.Balanced) (f : FeedId) : (s.followLink f).Balanced := by
  unfold State.followLink
  split
  · exact h.endWalk f _ _
  · exact h.visitEntry f _

theorem startWalk (h : s.Balanced) (f : FeedId) (o : Origin) (reason : Nat) : (s.startWalk f o reason).Balanced := by
  have begun := fun g => (h.aside (Aside.modWalk s f g)).aside
    (.post _ _ : Aside _ (State.postWalkStarted _ f o reason))
  unfold State.startWalk
  dsimp only
  split
  · exact endWalk (begun _) f _ _
  · exact visitEntry (begun _) f _

theorem resumeEntry (h : s.Balanced) (f : FeedId) : (s.resumeEntry f).Balanced :=
  complete (fun pos _ k => k.visitEntry f pos) (h.runAdmission f)

theorem walkNotice (h : s.Balanced) (f : FeedId) (d : DistrictId) (o : NoticeOutcome) :
    (s.walkNotice f d o).Balanced := by
  unfold State.walkNotice
  split
  · exact h
  · have counted := h.aside (Aside.modWalk s f (fun w => w.counted d o))
    refine complete (fun pos _ k => k.visitEntry f pos) ?_
    have halted : ∀ {t : State}, t.Balanced → (if o = .failed ∧ (t.fset f).haltOnError = true ∧
        (t.feed f).state = .walking then t.haltWalk f .device (.memberFailed d) else t).Balanced := fun k => by
      split
      · exact k.aside (.haltWalk _ f _ _)
      · exact k
    have retried : ∀ {t : State}, t.Balanced → (if (t.feed f).state = .walking ∧ (t.walk f).waiting = true then
        t.runAdmission f else t).Balanced := fun k => by
      split
      · exact k.runAdmission f
      · exact k
    exact retried (halted counted)

/-! ## Feed copies (R115) -/

/-- A feed none of whose districts is SOAKING has its pool and its slots free. -/
theorem pool_free (h : s.Balanced) {f : FeedId} (none : s.inState f .soaking = []) :
    (s.feed f).pool = 0 ∧ (s.feed f).slots = 0 := by
  obtain ⟨-, laws⟩ := h.pool
  obtain ⟨pool, -, slots, -⟩ := laws f
  rw [none] at pool slots
  exact ⟨pool, slots⟩

/-- New limits P and S come in force while nothing is in use (R115). -/
theorem installFeed (h : s.Balanced) {f : FeedId} (none : s.inState f .soaking = []) : (s.installFeed f).Balanced := by
  obtain ⟨noPool, noSlots⟩ := h.pool_free none
  have feed : ∀ g, ((s.installFeed f).feed g).queue = (s.feed g).queue ∧
      ((s.installFeed f).feed g).pool = (s.feed g).pool ∧
      ((s.installFeed f).feed g).slots = (s.feed g).slots := fun g => by
    unfold State.installFeed
    rw [State.feed_modFeed]
    split
    · subst g; exact ⟨rfl, rfl, rfl⟩
    · exact ⟨rfl, rfl, rfl⟩
  refine ⟨fun g => ?_, (State.poolLaw_iff _).2 ⟨h.soak_iff, fun g => ?_⟩⟩
  · rw [(feed g).1]
    exact h.queue g
  · obtain ⟨-, pool, slots⟩ := feed g
    obtain ⟨p1, p2, p3, p4⟩ := h.feed_sums g
    rw [pool, slots]
    refine ⟨p1, ?_, p3, ?_⟩
    all_goals
      by_cases hg : g = f
      · subst hg; omega
      · rw [(Notices.installFeed s f).otherFeedSets g hg]; assumption

theorem copyFeed (h : s.Balanced) {f : FeedId} (none : s.inState f .soaking = []) : (s.copyFeed f).Balanced :=
  (h.installFeed none).runGrantRule f

theorem copyWaitingFeed (h : s.Balanced) (f : FeedId) : (s.copyWaitingFeed f).Balanced := by
  unfold State.copyWaitingFeed
  split
  case isTrue k =>
    rw [Bool.and_eq_true, List.isEmpty_iff] at k
    exact ((h.installFeed k.2).aside (.post _ _)).runGrantRule f
  case isFalse => exact h

/-! ## District copies (R150 to R152) -/

theorem changeFeedOrKind {v : State} {d : DistrictId} (h : s.Balanced) (k : Moved d s v)
    (hd : (s.district d).state.defersApply = false) :
    (v.changeFeedOrKind (s.feedOfDistrict d) d).Balanced := by
  have state : (v.district d).state = (s.district d).state := (k.books d).state
  have hs : (s.district d).state ≠ .soaking := fun e => by simp [e, DState.defersApply] at hd
  have still : (s.district d).state ≠ .queued → Aside s (v.straightened d) ∧ ((v.straightened d).district d).Apart :=
    fun hq => by
      have aside := k.straightened.aside (.inr (h.apart hq hs))
      exact ⟨aside, aside.apart (h.apart hq hs)⟩
  rcases DState.of_not_defersApply hd with e | e | e
  · rw [State.changeFeedOrKind_of_off _ (state.trans e)]
    exact h.aside (still (by simp [e])).1
  · obtain ⟨aside, apart⟩ := still (by simp [e])
    rw [State.changeFeedOrKind_of_latched _ (state.trans e)]
    split
    · exact h.aside (aside.trans (.modDistrict _ d (.inr ⟨apart, District.enter_apart _ (by simp) (by simp)⟩)))
    · exact h.aside aside
  · rw [State.changeFeedOrKind_of_service _ (by rw [state]; exact e)]
    split
    · exact h.leaveFor k.straightened hs (by simp)
    · refine returnToService (h.leaveFor k.straightened hs (by simp)) ?_
      rw [State.leaveFor_district _ _ _ (by simp)]
      exact District.enter_apart _ (by simp) (by simp)

/-- A district's copy (R150 to R152). -/
theorem copyDistrict (h : s.Balanced) {d : DistrictId} (hd : (s.district d).state.defersApply = false) :
    (s.copyDistrict d).Balanced := by
  have moved := Moved.setCopied s d
  unfold State.copyDistrict
  dsimp only
  rw [State.installDistrict_eq_setCopied]
  split
  case isTrue same =>
    have copied := h.aside (moved.aside (.inl same.1))
    split
    · exact copied.runGrantRule _
    · exact copied
  case isFalse => exact h.changeFeedOrKind moved hd

end State.Balanced

theorem Aside.correct (s : State) (named : Half) (o : Origin) (d : DistrictId) : Aside s (s.correct named o d) := by
  unfold State.correct
  dsimp only
  split <;> exact .of_eq (fun _ => rfl) (fun _ => rfl) (fun _ => rfl) (fun _ => rfl)

namespace State.Balanced
variable {s : State}

theorem deferredCopy (h : s.Balanced) (d : DistrictId) : (s.deferredCopy d).Balanced := by
  unfold State.deferredCopy
  split
  case isTrue k =>
    simp only [Bool.and_eq_true, Bool.not_eq_true'] at k
    refine copyDistrict (h.aside (.trans (.correct s 0 .device d) (.trans (.modDistrict_of_same _ d rfl rfl)
      (.post _ _)))) ?_
    simpa using k.2
  case isFalse => exact h

theorem deferredCopies (h : s.Balanced) (ds : List DistrictId) : (ds.foldl State.deferredCopy s).Balanced := by
  induction ds generalizing s with
  | nil => exact h
  | cons d ds ih => exact ih (h.deferredCopy d)

end State.Balanced

end Sys2Proof.Machine
end

section
/-! # Queues, pools and slots through soak ends, samples and faults (chapters 02 to 05) -/

namespace Sys2Proof.Machine

/-! ## A soak's end gives back its cost and its slot (R113) -/

/-- From `s` to `t` district `d` has come to stand apart, and nothing else has moved: its feed still counts what it
held. -/
structure SoakLeft (d : DistrictId) (s t : State) : Prop where
  apart : (t.district d).Apart
  others : ∀ e, e ≠ d → (s.district e).SameBooks (t.district e)
  feedOfDistrict : ∀ e, t.feedOfDistrict e = s.feedOfDistrict e
  feed : ∀ g, t.feed g = s.feed g
  fset : ∀ g, t.fset g = s.fset g

theorem SoakLeft.modDistrict {s : State} {d : DistrictId} {g : District → District}
    (h : (g (s.district d)).Apart) : SoakLeft d s (s.modDistrict d g) :=
  ⟨by simpa using h, fun e he => by rw [State.district_modDistrict_of_ne he]; exact .refl _, fun _ => rfl, fun _ => rfl,
   fun _ => rfl⟩

theorem SoakLeft.post {d : DistrictId} {s t : State} (h : SoakLeft d s t) (ev : Event) : SoakLeft d s (t.post ev) :=
  ⟨h.apart, h.others, h.feedOfDistrict, h.feed, h.fset⟩

/-- A failed district is TRIPPED or LATCHED, with no soak (R22). -/
theorem District.failed_apart (r : District) (limit coolDown : Nat) : (r.failed limit coolDown).Apart := by
  obtain hs := r.failed_state limit coolDown
  refine ⟨?_, ?_, ?_⟩
  · rcases hs with k | k <;> simp [k]
  · rcases hs with k | k <;> simp [k]
  · unfold District.failed; split <;> simp [District.toTripped]

/-- The LATCHED decision, after events and a rewritten record (R22, R66). -/
theorem SoakLeft.tripOrLatch (s : State) (d : DistrictId) (cause : Cause) : SoakLeft d s (s.tripOrLatch d cause) := by
  obtain ⟨feeds, image, -⟩ := s.tripOrLatch_frame d cause
  refine ⟨?_, fun e he => ?_, fun e => ?_, fun g => ?_, fun g => ?_⟩
  · rw [State.tripOrLatch_record, if_pos rfl]; exact District.failed_apart _ _ _
  · rw [State.tripOrLatch_record, if_neg he]; exact .refl _
  · simp [State.feedOfDistrict, State.tripOrLatch_dset]
  · simp only [State.feed, feeds]
  · simp only [State.fset, image]

/-- The LATCHED decision at a district that stood apart moves nothing. -/
theorem Aside.tripOrLatch {s : State} {d : DistrictId} (ha : (s.district d).Apart) (cause : Cause) :
    Aside s (s.tripOrLatch d cause) := by
  have left := SoakLeft.tripOrLatch s d cause
  refine ⟨fun e => ?_, fun g => by rw [left.feed], fun g => by rw [left.feed], fun g => by rw [left.feed], left.fset⟩
  by_cases he : e = d
  · subst he; exact .inr ⟨ha, left.apart⟩
  · exact .inl ⟨left.others e he, left.feedOfDistrict e⟩

namespace State.Balanced
variable {s t : State}

/-- Once cost and slot of the ended soak are back, the books balance again (R113). -/
theorem costReturned (h : s.Balanced) {d : DistrictId} (k : SoakLeft d s t) {c : SoakContext}
    (hc : (s.district d).heldCost = c.cost)
    (ho : (s.district d).soaksAlone = decide (c.origin = .individual)) (hq : (s.district d).state ≠ .queued) :
    (t.costReturned (s.feedOfDistrict d) c).Balanced := by
  have feed : (t.costReturned (s.feedOfDistrict d) c).feed (s.feedOfDistrict d) =
      { s.feed (s.feedOfDistrict d) with
        pool := (s.feed (s.feedOfDistrict d)).pool - c.cost
        slots := if c.origin = .individual then (s.feed (s.feedOfDistrict d)).slots - 1
          else (s.feed (s.feedOfDistrict d)).slots } := by
    simp [State.costReturned, k.feed]
  have record : (t.costReturned (s.feedOfDistrict d) c).district d = t.district d := rfl
  obtain ⟨-, pool, -, slots⟩ := h.feed_sums (s.feedOfDistrict d)
  refine h.transfers (f := s.feedOfDistrict d) (d := d) ⟨rfl, .inr k.apart, ?_, fun e he => ⟨k.others e he, ?_⟩,
    fun g hg => ?_, k.fset, ?_, fun e => ?_, ?_, ?_, ?_, ?_⟩
  · rw [record]; simp [k.apart.soak, k.apart.not_soaking]
  · exact k.feedOfDistrict e
  · simp [State.costReturned, State.feed_modFeed, hg, k.feed]
  · rw [feed]; exact h.nodup _
  · rw [feed, record]
    by_cases he : e = d
    · subst he
      simp [h.mem_queue, hq, k.apart.not_queued]
    · simp [he]
  · have room := h.heldCost_le d
    rw [feed, record, k.apart.heldCost]
    dsimp only
    omega
  · have fset := k.fset (s.feedOfDistrict d)
    rw [feed]
    show _ ≤ (t.fset _).p
    rw [fset]
    dsimp only
    omega
  · rw [feed, record, k.apart.soaksAlone, ho]
    by_cases alone : c.origin = .individual
    · have slot := h.slot_le (d := d) (by rw [ho]; simpa using alone)
      simp [alone, bit]
      omega
    · simp [alone]
  · have fset := k.fset (s.feedOfDistrict d)
    rw [feed]
    show _ ≤ (t.fset _).s
    rw [fset]
    dsimp only
    split <;> omega

/-- The notice of a soak's end, once its district has left it (R113). -/
theorem soakEndNotice {f : FeedId} {c : SoakContext} (h : (t.costReturned f c).Balanced) (d : DistrictId)
    (o : NoticeOutcome) : (t.soakEndNotice f d c o).Balanced := by
  have noticed : (if c.origin = .individual then t.costReturned f c
      else (t.costReturned f c).walkNotice f d o).Balanced := by
    split
    · exact h
    · exact h.walkNotice f d o
  exact (noticed.runGrantRule f).copyWaitingFeed f

/-- What a SOAKING district holds is what its soak context says. -/
theorem books_of_soak {d : DistrictId} {c : SoakContext} (hc : (s.district d).soak = some c) :
    (s.district d).heldCost = c.cost ∧ (s.district d).soaksAlone = decide (c.origin = .individual) := by
  simp [District.heldCost, District.soaksAlone, hc]

/-- A soak that fails (R66). -/
theorem soakFail (h : s.Balanced) {d : DistrictId} {c c₀ : SoakContext} (hs : (s.district d).state = .soaking)
    (hc₀ : (s.district d).soak = some c₀) (hc : c.cost = c₀.cost ∧ c.origin = c₀.origin) (why : SoakFailure) :
    (s.soakFail d c why).Balanced := by
  unfold State.soakFail
  dsimp only
  refine deferredCopy (soakEndNotice ?_ d .failed) d
  have reported := fun g : District → District => fun (hg : (g (s.district d)).state = (s.district d).state ∧
      (g (s.district d)).soak = (s.district d).soak) (ev : Event) =>
    (Aside.modDistrict_of_same s d hg.1 hg.2).trans (.post _ ev)
  refine costReturned (s := (s.modDistrict d _).post _) (h.aside (reported _ ?_ _)) (.tripOrLatch _ d _) ?_ ?_ ?_
  · exact ⟨rfl, rfl⟩
  · simp [District.heldCost, hc₀, hc]
  · simp [District.soaksAlone, hc₀, hc]
  · simp [hs]

/-- A soak that passes (R74). -/
theorem soakPass (h : s.Balanced) {d : DistrictId} {c c₀ : SoakContext} (hs : (s.district d).state = .soaking)
    (hc₀ : (s.district d).soak = some c₀) (hc : c.cost = c₀.cost ∧ c.origin = c₀.origin) :
    (s.soakPass d c).Balanced := by
  have live := District.enter_apart (s.district d) (st := .live) (by simp) (by simp)
  unfold State.soakPass
  dsimp only
  refine deferredCopy (soakEndNotice ?_ d .passed) d
  refine h.costReturned (.post (.modDistrict ⟨live.not_queued, live.not_soaking, live.soak⟩) _) ?_ ?_ (by simp [hs])
  · simp [District.heldCost, hc₀, hc]
  · simp [District.soaksAlone, hc₀, hc]

end State.Balanced

/-! ## Entry to OFF (R11) -/

theorem Aside.endGrace (s : State) (v : DistrictId) : Aside s (s.endGrace v) := by
  unfold State.endGrace
  split
  · exact .refl s
  · exact .modDistrict_of_same s _ rfl rfl

theorem Aside.abandonSwap (s : State) (d : DistrictId) : Aside s (s.abandonSwap d) := by
  unfold State.abandonSwap
  split
  · exact .endGrace s d
  · exact .refl s

theorem Aside.recordSoak (s : State) (d : DistrictId) (o : SoakOutcome) :
    Aside s (s.modDistrict d (fun r => r.recordSoak o)) :=
  .modDistrict_of_same s d (by simp) (by rw [District.recordSoak_eq])

/-- An entry to OFF before the district leaves its state: a swap is abandoned and a soak's end recorded (R11). -/
def State.offBegun (s : State) (d : DistrictId) : State :=
  (s.abandonSwap d).modDistrict d (fun r => r.recordSoak .aborted)

theorem Aside.offBegun (s : State) (d : DistrictId) : Aside s (s.offBegun d) :=
  (Aside.abandonSwap s d).trans (.recordSoak _ d _)

theorem State.offBegun_district (s : State) (d : DistrictId) :
    ((s.offBegun d).district d).state = (s.district d).state ∧
      ((s.offBegun d).district d).soak = (s.district d).soak := by
  rw [State.offBegun, State.district_modDistrict_same, State.abandonSwap_district, District.recordSoak_eq]
  exact ⟨rfl, rfl⟩

theorem State.offBegun_feedOfDistrict (s : State) (d e : DistrictId) :
    (s.offBegun d).feedOfDistrict e = s.feedOfDistrict e := by
  have set := (StandsAt.abandonSwap e s d).dset
  rw [State.offBegun, State.modDistrict_feedOfDistrict, State.feedOfDistrict, set]
  rfl

/-- The entry to OFF ends a soak or leaves a queue (R11). -/
theorem State.Balanced.toOff {s : State} (h : s.Balanced) (d : DistrictId) : (s.toOff d).Balanced := by
  have begun := h.aside (.offBegun s d)
  obtain ⟨state, soak⟩ := s.offBegun_district d
  have feed := s.offBegun_feedOfDistrict d d
  have left : s.leftForOff d = (s.offBegun d).leaveFor (s.feedOfDistrict d) d .off := rfl
  rw [State.toOff_eq, State.soakOf, left, ← feed]
  by_cases hs : (s.district d).state = .soaking
  · obtain ⟨c, hc⟩ := Option.isSome_iff_exists.1 ((h.soak_iff d).2 hs)
    obtain ⟨cost, alone⟩ := books_of_soak (soak.trans hc)
    rw [if_pos hs, hc, State.leaveFor_of_not_queued (by simp [state, hs])]
    exact soakEndNotice (begun.costReturned (.modDistrict (District.enter_apart _ (by simp) (by simp))) cost alone
      (by simp [state, hs])) d .aborted
  · rw [if_neg hs]
    exact begun.leaveFor (.refl d _) (by rw [state]; exact hs) (by simp)

/-! ## Darkening, CYCLE-FEED and the accepted fault (R99, R101, R116) -/

theorem State.darken_eq (f : FeedId) (s : State) (d : DistrictId) :
    s.darken f d = ((s.offBegun d).modDistrict d (fun r => r.enter .dark)).leaveQueue f d := by
  unfold State.darken State.offBegun
  rw [State.modDistrict_modDistrict]

/-- From `s` to `t` the districts `ds` have come to stand apart, each taken out of the queue of feed `f` (R101). -/
structure Darkened (f : FeedId) (ds : List DistrictId) (s t : State) : Prop where
  apart : ∀ d ∈ ds, (t.district d).Apart
  others : ∀ d, d ∉ ds → (s.district d).SameBooks (t.district d)
  feedOfDistrict : ∀ d, t.feedOfDistrict d = s.feedOfDistrict d
  otherFeeds : ∀ g, g ≠ f → t.feed g = s.feed g
  feed : t.feed f = { s.feed f with queue := (s.feed f).queue.filter (fun e => e ∉ ds) }
  fset : ∀ g, t.fset g = s.fset g

theorem State.offBegun_feed (s : State) (d : DistrictId) (g : FeedId) :
    (s.offBegun d).feed g = s.feed g ∧ (s.offBegun d).fset g = s.fset g := by
  unfold State.offBegun State.abandonSwap State.endGrace
  split
  · split <;> exact ⟨rfl, rfl⟩
  · exact ⟨rfl, rfl⟩

theorem State.offBegun_others (s : State) {d e : DistrictId} :
    (s.district e).SameBooks ((s.offBegun d).district e) := by
  have grace : ∀ x, (s.district x).SameBooks ((s.abandonSwap d).district x) := fun x => by
    unfold State.abandonSwap State.endGrace
    split
    · split
      · exact .refl _
      · rw [State.district_modDistrict]
        split
        · subst x; exact .of_eq rfl rfl
        · exact .refl _
    · exact .refl _
  rw [State.offBegun, State.district_modDistrict]
  split
  · subst e; exact (grace d).trans (.of_eq (by simp) (by rw [District.recordSoak_eq]))
  · exact grace e

theorem Darkened.darken (f : FeedId) (s : State) (d : DistrictId) : Darkened f [d] s (s.darken f d) := by
  have feeds := s.offBegun_feed d
  rw [State.darken_eq]
  refine ⟨fun e he => ?_, fun e he => ?_, fun e => ?_, fun g hg => ?_, ?_, fun g => ?_⟩
  · rw [List.mem_singleton] at he
    subst he
    simpa [State.leaveQueue] using District.enter_apart _ (by simp) (by simp)
  · rw [List.mem_singleton] at he
    simpa [State.leaveQueue, State.district_modDistrict, he] using s.offBegun_others
  · exact s.offBegun_feedOfDistrict d e
  · simp [State.leaveQueue, State.feed_modFeed, hg, (feeds g).1]
  · simp [State.leaveQueue, (feeds f).1, bne, beq_eq_decide]
  · exact (feeds g).2

theorem Darkened.cons {f : FeedId} {d : DistrictId} {ds : List DistrictId} {s t u : State} (h : Darkened f [d] s t)
    (k : Darkened f ds t u) : Darkened f (d :: ds) s u where
  apart e he := by
    by_cases hd : e ∈ ds
    · exact k.apart e hd
    · exact (h.apart e (by simp_all)).of_books (k.others e hd)
  others e he := by
    rw [List.mem_cons, not_or] at he
    exact (h.others e (by simp [he.1])).trans (k.others e he.2)
  feedOfDistrict e := (k.feedOfDistrict e).trans (h.feedOfDistrict e)
  otherFeeds g hg := (k.otherFeeds g hg).trans (h.otherFeeds g hg)
  feed := by
    rw [k.feed, h.feed]
    simp only [List.filter_filter, List.mem_cons, not_or]
    congr 1
    exact List.filter_congr fun e _ => by simp [Bool.and_comm]
  fset g := (k.fset g).trans (h.fset g)

theorem Darkened.foldl (f : FeedId) (ds : List DistrictId) (s : State) :
    Darkened f ds s (ds.foldl (State.darken f) s) := by
  induction ds generalizing s with
  | nil => exact ⟨by simp, fun _ _ => .refl _, fun _ => rfl, fun _ _ => rfl, by simp, fun _ => rfl⟩
  | cons d ds ih => exact (Darkened.darken f s d).cons (ih _)

/-- A district of feed `f` that a fault does not darken stands apart already (R99). -/
theorem State.Balanced.apart_of_not_darkened {s : State} (h : s.Balanced) {f : FeedId} {d : DistrictId}
    (hf : s.feedOfDistrict d = f) (hd : d ∉ s.toDarken f) : (s.district d).Apart := by
  have still : (s.district d).state.darkens = false := by
    simpa [State.toDarken, State.districtsOf, mem_allDistricts, hf] using hd
  refine h.apart ?_ ?_ <;> intro k <;> simp [k, DState.darkens] at still

/-- A feed all of whose districts have come to stand apart, with its queue, pool and slots emptied (R99). -/
theorem State.Balanced.emptied {s t u : State} {f : FeedId} (h : s.Balanced) (k : Darkened f (s.toDarken f) s t)
    (hu : u = t.modFeed f (fun x => { x with queue := [], pool := 0, slots := 0 })) : u.Balanced := by
  have record : ∀ d, u.district d = t.district d := fun d => by rw [hu]; rfl
  have on : ∀ d, u.feedOfDistrict d = s.feedOfDistrict d := fun d => by rw [hu]; exact k.feedOfDistrict d
  have apart : ∀ d, s.feedOfDistrict d = f → (u.district d).Apart := fun d hf => by
    rw [record]
    by_cases hd : d ∈ s.toDarken f
    · exact k.apart d hd
    · exact (h.apart_of_not_darkened hf hd).of_books (k.others d hd)
  have same : ∀ d, s.feedOfDistrict d ≠ f → (s.district d).SameBooks (u.district d) := fun d hf => by
    rw [record]
    exact k.others d fun hd => hf (by simpa using (List.mem_filter.1 (List.mem_of_mem_filter hd)).2)
  have feed : u.feed f = { t.feed f with queue := [], pool := 0, slots := 0 } := by rw [hu]; simp
  have otherFeeds : ∀ g, g ≠ f → u.feed g = s.feed g := fun g hg => by
    rw [hu, State.feed_modFeed_of_ne hg, k.otherFeeds g hg]
  have fset : ∀ g, u.fset g = s.fset g := fun g => by rw [hu]; exact k.fset g
  refine ⟨fun g => ?_, u.poolLaw_iff.2 ⟨fun d => ?_, fun g => ?_⟩⟩
  · by_cases hg : g = f
    · subst hg
      rw [feed]
      refine ⟨List.nodup_nil, fun d => ?_⟩
      rw [on]
      simpa using fun hq hf => (apart d hf).not_queued hq
    · rw [otherFeeds g hg]
      refine ⟨h.nodup g, fun d => (h.mem_queue g d).trans ?_⟩
      rw [on]
      refine and_congr_left fun hd => ?_
      rw [(same d (hd ▸ hg)).state]
  · by_cases hf : s.feedOfDistrict d = f
    · simp [(apart d hf).soak, (apart d hf).not_soaking]
    · rw [(same d hf).state, (same d hf).soak, h.soak_iff]
  · by_cases hg : g = f
    · subst hg
      have noCost : ∀ d, u.costAt g d = 0 := fun d => by
        unfold State.costAt
        rw [on]
        split
        · exact (apart d ‹_›).heldCost
        · rfl
      have noSlot : ∀ d, u.slotAt g d = 0 := fun d => by
        unfold State.slotAt
        rw [on, if_neg]
        rintro ⟨hf, hs⟩
        simp [(apart d hf).soaksAlone] at hs
      rw [feed]
      simp [noCost, noSlot]
    · have costs : ∀ d, u.costAt g d = s.costAt g d := fun d => by
        unfold State.costAt
        rw [on]
        split
        case isTrue hd => rw [(same d (hd ▸ hg)).cost]
        case isFalse => rfl
      have slots : ∀ d, u.slotAt g d = s.slotAt g d := fun d => by
        unfold State.slotAt
        rw [on]
        by_cases hd : s.feedOfDistrict d = g
        · rw [(same d (hd ▸ hg)).alone]
        · simp [hd]
      rw [otherFeeds g hg, fset, Finset.sum_congr rfl fun d _ => costs d, Finset.sum_congr rfl fun d _ => slots d]
      exact h.feed_sums g

/-- A darkened district that was not SOAKING has left its queue with its books in order (R101). -/
theorem State.Balanced.darken {s : State} (h : s.Balanced) {f : FeedId} {d : DistrictId}
    (hf : s.feedOfDistrict d = f) (hs : (s.district d).state ≠ .soaking) : (s.darken f d).Balanced := by
  have dark := Darkened.darken f s d
  refine h.transfers (.leaves h hf hs (dark.apart d (by simp))
    (fun e he => ⟨dark.others e (by simp [he]), dark.feedOfDistrict e⟩) dark.otherFeeds dark.fset ?_)
  rw [dark.feed]
  simp [bne, beq_eq_decide]

theorem State.Balanced.darkenAll {s : State} (h : s.Balanced) {f : FeedId} {ds : List DistrictId}
    (hd : ∀ d ∈ ds, s.feedOfDistrict d = f ∧ (s.district d).state ≠ .soaking) :
    (ds.foldl (State.darken f) s).Balanced := by
  induction ds generalizing s with
  | nil => exact h
  | cons d ds ih =>
    obtain ⟨hf, hs⟩ := hd d (by simp)
    have dark := Darkened.darken f s d
    refine ih (h.darken hf hs) fun e he => ?_
    rw [dark.feedOfDistrict]
    obtain ⟨ef, es⟩ := hd e (by simp [he])
    refine ⟨ef, ?_⟩
    by_cases hed : e = d
    · exact (dark.apart e (by simp [hed])).not_soaking
    · rw [(dark.others e (by simp [hed])).state]; exact es

theorem Aside.capture (s : State) (f : FeedId) : Aside s (s.capture f) :=
  (Aside.modFeed s f (by simp)).trans (.foldl (fun s d => .modDistrict_of_same s d rfl rfl) _ _)

theorem Aside.abortAnyWalk (s : State) (f : FeedId) : Aside s (s.abortAnyWalk f) := by
  have aborted : Aside s (s.abortWalk f) := (Aside.modFeed s f (by simp)).trans (.post _ _)
  unfold State.abortAnyWalk
  split
  · exact aborted
  · exact aborted
  · exact .refl s
  · exact .refl s

namespace State.Balanced
variable {s : State}

/-- The accepted fault empties the feed's books (R99). -/
theorem acceptFault (h : s.Balanced) (f : FeedId) : (s.acceptFault f).Balanced := by
  have captured := h.aside (.capture s f)
  have emptied := captured.emptied (Darkened.foldl f ((s.capture f).toDarken f) (s.capture f)) rfl
  have down := emptied.aside (.abortAnyWalk _ f)
  unfold State.acceptFault
  dsimp only
  refine (copyWaitingFeed (deferredCopies ?_ _) f).aside (.copyWaitingChains _)
  exact (down.aside (.modFeed _ f (by simp))).aside (.post _ _)

/-- CYCLE-FEED darkens a feed without a soak in progress (R116). -/
theorem cycle (h : s.Balanced) (p : Port) {f : FeedId} (none : s.inState f .soaking = []) :
    (s.cycle p f).Balanced := by
  have dark : ∀ d ∈ s.toDarken f, s.feedOfDistrict d = f ∧ (s.district d).state ≠ .soaking := fun d hd => by
    have hf : s.feedOfDistrict d = f := by simpa using (List.mem_filter.1 (List.mem_of_mem_filter hd)).2
    exact ⟨hf, fun hs => List.not_mem_nil (none ▸ (s.mem_inState f .soaking d).2 ⟨hf, hs⟩)⟩
  unfold State.cycle
  dsimp only
  exact startWalk (deferredCopies ((h.darkenAll dark).aside (.modFeed _ f (by simp))) _) f _ _

end State.Balanced

end Sys2Proof.Machine
end

section
/-! # Every step keeps the laws of queues, pools and slots (R56, R108 to R110) -/

namespace Sys2Proof.Machine

/-! ## Samples (chapters 02 to 04) -/

/-- A trip takes its district to TRIPPED or LATCHED (R39). -/
theorem Aside.trip {s : State} {d : DistrictId} (ha : (s.district d).Apart) (why : Condition) (figure : Nat) :
    Aside s (s.trip d why figure) := by
  unfold State.trip
  refine (Aside.modDistrict_of_same s d rfl rfl).trans ((Aside.post _ _).trans (.tripOrLatch ?_ _))
  exact ⟨by simpa using ha.not_queued, by simpa using ha.not_soaking, by simpa using ha.soak⟩

theorem Aside.excuse (s : State) (d : DistrictId) (figure : Nat) : Aside s (s.excuse d figure) :=
  (Aside.modDistrict_of_same s d rfl rfl).trans (.post _ _)

theorem Aside.evaluateLive {s : State} {d : DistrictId} (ha : (s.district d).Apart) (x : Nat) :
    Aside s (s.evaluateLive d x) := by
  have excused := Aside.excuse s d x
  unfold State.evaluateLive
  dsimp only
  split
  · split
    · exact .trip ha _ _
    · split
      · exact excused.trans (.trip (excused.apart ha) _ _)
      · exact excused
  · split
    · exact .trip ha _ _
    · exact .refl s

theorem Aside.evaluatePlain {s : State} {d : DistrictId} (ha : (s.district d).Apart) (x : Nat) :
    Aside s (s.evaluatePlain d x) := by
  unfold State.evaluatePlain
  split
  · exact .refl s
  · split
    · exact .modDistrict_of_same s d rfl rfl
    · exact .evaluateLive ha x

theorem Aside.resolveDeferral {s : State} {d : DistrictId} (ha : (s.district d).Apart) (df : Deferral) :
    Aside s (s.resolveDeferral d df) := by
  have resolved := Aside.modDistrict_of_same s d (g := fun r => { r with deferral := none }) rfl rfl
  unfold State.resolveDeferral
  dsimp only
  split
  · exact resolved.trans (.excuse _ d _)
  · exact resolved.trans (.trip (resolved.apart ha) _ _)

theorem Aside.evaluatePartner {s : State} {d : DistrictId} (ha : (s.district d).Apart) (x : Nat) :
    Aside s (s.evaluatePartner d x) := by
  unfold State.evaluatePartner
  split
  · exact .refl s
  · split
    · exact .evaluatePlain ha x
    case _ df _ =>
      have resolved := Aside.resolveDeferral ha df
      dsimp only
      split
      · exact resolved.trans (.evaluatePlain (resolved.apart ha) x)
      · exact resolved

theorem Aside.swapTrigger {s : State} {v : DistrictId} (ha : (s.district v).Apart) : Aside s (s.swapTrigger v) := by
  have begun : Aside s (s.modDistrict v (fun r =>
      { r with preSwap := some r.polarity, polarity := r.polarity.toggled
               deadTime := some (s.dset v).deadTime }.enter .swapping)) :=
    .modDistrict s v (.inr ⟨ha, District.enter_apart _ (by simp) (by simp)⟩)
  unfold State.swapTrigger
  dsimp only
  split
  · exact begun
  · split
    · exact begun.trans (.modDistrict_of_same _ _ rfl rfl)
    · exact begun

theorem Aside.evaluateReversing {s : State} {d : DistrictId} (ha : (s.district d).Apart) (x : Nat) :
    Aside s (s.evaluateReversing d x) := by
  unfold State.evaluateReversing
  split
  · exact .swapTrigger ha
  · split
    · split
      · exact .swapTrigger ha
      · exact .trip ha _ _
    · exact .refl s

theorem Aside.judgeOccupancy (s : State) (d : DistrictId) : Aside s (s.judgeOccupancy d) := by
  unfold State.judgeOccupancy
  dsimp only
  split
  · split
    · exact (Aside.modDistrict_of_same s d rfl rfl).trans (.post _ _)
    · exact .modDistrict_of_same s d rfl rfl
  · exact .refl s

namespace State.Balanced
variable {s : State}

/-- A swap that succeeds or fails leaves a district apart, and a waiting copy is made (R85, R86). -/
theorem swapSuccess (h : s.Balanced) {v : DistrictId} (ha : (s.district v).Apart) : (s.swapSuccess v).Balanced := by
  have live := District.enter_apart (s.district v) (st := .live) (by simp) (by simp)
  unfold State.swapSuccess
  dsimp only
  refine deferredCopy (((h.aside (.modDistrict s v (.inr ⟨ha, ?_⟩))).aside (.post _ _)).aside (.endGrace _ v)) v
  exact ⟨live.not_queued, live.not_soaking, live.soak⟩

theorem swapFail (h : s.Balanced) {v : DistrictId} (ha : (s.district v).Apart) (test figure : Nat) :
    (s.swapFail v test figure).Balanced := by
  have lost : Aside s (((s.modDistrict v District.swapLost).postDistrict .swapFailed v
      (Cause.swapFailed.code + 16 * test) figure).endGrace v) :=
    (Aside.modDistrict_of_same s v rfl rfl).trans ((Aside.post _ _).trans (.endGrace _ v))
  exact deferredCopy ((h.aside lost).aside (.tripOrLatch (lost.apart ha) _)) v

theorem evaluateCheck (h : s.Balanced) {d : DistrictId} (ha : (s.district d).Apart) (x : Nat) :
    (s.evaluateCheck d x).Balanced := by
  unfold State.evaluateCheck
  split
  · exact h.swapFail ha _ _
  · split
    · exact h.swapFail ha _ _
    · have counted := fun n : Nat =>
        Aside.modDistrict_of_same s d (g := fun r => { r with checkCount := some n }) rfl rfl
      dsimp only
      split
      · exact swapSuccess (h.aside (counted _)) ((counted _).apart ha)
      · exact h.aside (counted _)

theorem evaluateSoak (h : s.Balanced) {d : DistrictId} (hs : (s.district d).state = .soaking) (x : Nat) :
    (s.evaluateSoak d x).Balanced := by
  unfold State.evaluateSoak
  split
  · exact h
  case _ c hc =>
    dsimp only
    split
    · exact h.soakFail hs hc (by simp) _
    · split
      · exact h.soakFail hs hc (by simp) _
      · split
        · split
          · exact h.soakPass hs hc (by simp)
          · exact h.soakFail hs hc (by simp) _
        · exact h.aside (.modDistrict s d (.inl ⟨rfl, by simp [hc], by simp [District.heldCost, hc],
            by simp [District.soaksAlone, hc]⟩))

theorem evaluate (h : s.Balanced) (d : DistrictId) (x : Nat) : (s.evaluate d x).Balanced := by
  have apart : (s.district d).state = .live ∨ (s.district d).state = .swapCheck → (s.district d).Apart := fun k =>
    h.apart (by rcases k with k | k <;> simp [k]) (by rcases k with k | k <;> simp [k])
  unfold State.evaluate
  split
  · exact h.evaluateSoak ‹_› x
  · exact h.evaluateCheck (apart (.inr ‹_›)) x
  · split
    · exact h.aside (.evaluateReversing (apart (.inl ‹_›)) x)
    · exact h.aside (.evaluatePartner (apart (.inl ‹_›)) x)
  all_goals exact h

theorem takeSample (h : s.Balanced) (d : DistrictId) (x : Nat) : (s.takeSample d x).Balanced := by
  unfold State.takeSample
  split
  · exact h
  · exact evaluate (h.aside ((Aside.modDistrict_of_same s d rfl rfl).trans (.judgeOccupancy _ d))) d x

/-! ## Expiries and fault lines (R20, R49, R83, R98, R103, R130) -/

theorem coolDownExpires (h : s.Balanced) (d : DistrictId) : (s.coolDownExpires d).Balanced := by
  unfold State.coolDownExpires
  split
  case isTrue k => exact h.join rfl (h.apart (by simp [k.1]) (by simp [k.1]))
  case isFalse => exact h

theorem settleExpires (h : s.Balanced) (d : DistrictId) : (s.settleExpires d).Balanced := by
  unfold State.settleExpires
  split
  · exact h.aside ((Aside.modDistrict_of_same s d rfl rfl).trans (.post _ _))
  · exact h

theorem deadTimeExpires (h : s.Balanced) (d : DistrictId) : (s.deadTimeExpires d).Balanced := by
  unfold State.deadTimeExpires
  split
  case isTrue k =>
    have check := District.enter_apart (s.district d) (st := .swapCheck) (by simp) (by simp)
    exact h.aside (.modDistrict s d (.inr ⟨h.apart (by simp [k.1]) (by simp [k.1]),
      ⟨check.not_queued, check.not_soaking, check.soak⟩⟩))
  case isFalse => exact h

theorem lineChanges (h : s.Balanced) (f : FeedId) (level : Level) : (s.lineChanges f level).Balanced := by
  unfold State.lineChanges
  split
  · exact h
  · split
    · have fell := h.aside (.modFeed s f (g := fun x => { x with raw := .faulted, debounce := none }) (by simp))
      dsimp only
      split
      · exact fell.acceptFault f
      · exact fell
    · exact h.aside (.modFeed s f (by simp))

theorem acceptHealthy (h : s.Balanced) (f : FeedId) : (s.acceptHealthy f).Balanced := by
  have risen := fun goes : FState => (((h.aside (.modFeed s f
    (g := fun x => { x with debounce := none, accepted := .healthy, rose := true }) (by simp))).aside
    (.post _ { kind := .feedUp, subject := .feed f, origin := .device, detail := byteOf goes.code
               value := districtMask (s.inState f .dark) })).aside
    (.modFeed _ f (g := fun x => { x with state := goes }) (by simp)))
  unfold State.acceptHealthy
  dsimp only
  split
  · exact risen _
  · exact (risen _).startWalk f _ _

theorem pauseExpires (h : s.Balanced) (f : FeedId) : (s.pauseExpires f).Balanced := by
  unfold State.pauseExpires
  split
  · exact followLink (h.aside (.modWalk s f _)) f
  · exact h

/-! ## Requests (R9 to R17, R43, R116, R134 to R137, R148 to R154) -/

theorem whenRunning (h : s.Balanced) {act : State → State} (k : (act s).Balanced) : (s.whenRunning act).Balanced := by
  unfold State.whenRunning
  split
  · exact h
  · exact k

theorem serve (h : s.Balanced) (i : Instr) {body : State → State × Reply}
    (k : ∀ {t : State}, t.Balanced → (body t).1.Balanced) : (s.serve i body).Balanced := by
  have taken : ∀ p, (s.takeRequest p).Balanced := fun p => by
    unfold State.takeRequest
    split
    · exact h.aside (.modPort s p _)
    · exact h
  unfold State.serve
  split
  · exact h
  · refine h.whenRunning ?_
    split
    · exact h
    · split
      · exact h.aside (.modPort s _ _)
      · dsimp only
        split
        · exact (k (taken _)).aside (.modPort _ _ _)
        · exact (taken _).aside (.modPort _ _ _)

/-- A mask command keeps what its rule keeps (R9). -/
theorem maskCommand (h : s.Balanced) (p : Port) (c : Command) (mask : Half)
    {rule : DistrictId → State → State × Verdict} (k : ∀ d {t : State}, t.Balanced → (rule d t).1.Balanced) :
    (maskCommand p c mask rule s).1.Balanced := by
  have all : ∀ (ds : List DistrictId) (t : Tally), t.state.Balanced →
      (ds.foldl (Tally.step p c rule) t).state.Balanced := by
    intro ds
    induction ds with
    | nil => exact fun t ht => ht
    | cons d ds ih =>
      refine fun t ht => ih _ ?_
      rw [Tally.step_eq]
      dsimp only
      split
      · have posted := (k d ht).aside (.post _ _ : Aside _ ((rule d t.state).1.postCommandState p c d))
        unfold State.acted State.copyAfter
        split
        · exact posted.deferredCopy d
        · exact posted
      · exact ht
  exact all (namedDistricts mask) { state := s, done := [], unchanged := [], refused := [] } h

theorem enableRule (h : s.Balanced) (d : DistrictId) : (enableRule d s).1.Balanced := by
  unfold Machine.enableRule
  split
  case _ off =>
    have ha := h.apart (d := d) (by simp [off]) (by simp [off])
    have forgiven := Aside.modDistrict_of_same s d (g := fun r => { r with retry := 0 }) rfl rfl
    split
    · exact (h.aside forgiven).returnToService (forgiven.apart ha)
    · exact h
  all_goals exact h

theorem clearRule (h : s.Balanced) (d : DistrictId) : (clearRule d s).1.Balanced := by
  unfold Machine.clearRule
  split
  case isTrue latched =>
    have ha := h.apart (d := d) (by simp [latched]) (by simp [latched])
    have forgiven := Aside.modDistrict_of_same s d (g := fun r => { r with retry := 0, suspect := 0 }) rfl rfl
    exact (h.aside forgiven).returnToService (forgiven.apart ha)
  case isFalse => exact h

theorem disableRule (h : s.Balanced) (d : DistrictId) : (disableRule d s).1.Balanced := by
  unfold Machine.disableRule
  split
  · exact h
  · exact h.toOff d

theorem holdRule (h : s.Balanced) (p : Port) (d : DistrictId) : (holdRule p d s).1.Balanced := by
  unfold Machine.holdRule
  split
  · exact h
  · have marked := h.aside (.modDistrict_of_same s d (g := fun r => { r with holds := r.holds.put true p }) rfl rfl)
    dsimp only
    split
    · exact marked
    · exact marked.toOff d

/-- The commands that rewrite a mark, a flag or the statistics (R13, R14, R16, R17). -/
theorem markRule (h : s.Balanced) {test : District → Bool} {g : District → District}
    (hg : ∀ r, (g r).state = r.state ∧ (g r).soak = r.soak) (d : DistrictId) : (markRule test g d s).1.Balanced := by
  unfold Machine.markRule
  split
  · exact h.aside (.modDistrict_of_same s d (hg _).1 (hg _).2)
  · exact h

theorem applySettings (h : s.Balanced) (p : Port) (districts : Half) (feeds : Byte) :
    (State.applySettings p districts feeds s).1.Balanced := by
  have each : ∀ (ds : List DistrictId) (t : ApplyTally), t.state.Balanced →
      (ds.foldl (ApplyTally.district p districts) t).state.Balanced := by
    intro ds
    induction ds with
    | nil => exact fun t ht => ht
    | cons d ds ih =>
      refine fun t ht => ih _ ?_
      have corrected := ht.aside (.correct t.state districts (.port p) d)
      unfold ApplyTally.district
      dsimp only
      split
      · dsimp only
        exact corrected.aside (.modDistrict_of_same _ d rfl rfl)
      case isFalse free => exact corrected.copyDistrict (Bool.eq_false_iff.2 free)
  have feedwise : ∀ (fs : List FeedId) (t : ApplyTally), t.state.Balanced →
      (fs.foldl ApplyTally.feed t).state.Balanced := by
    intro fs
    induction fs with
    | nil => exact fun t ht => ht
    | cons f fs ih =>
      refine fun t ht => ih _ ?_
      unfold ApplyTally.feed
      split
      · exact ht.copyFeed (List.isEmpty_iff.1 ‹_›)
      · dsimp only
        exact ht.aside (.modFeed _ f (by simp))
  unfold State.applySettings
  split
  · exact h
  · have copied := feedwise (namedFeeds feeds) _ (each (namedDistricts districts)
      { state := s, copied := [], deferred := [], corrected := [], feedsCopied := [], feedsDeferred := [] } h)
    dsimp only
    split
    · exact copied
    · exact copied.aside (.post _ _)

theorem feedCommand (h : s.Balanced) {act : FeedId → State → State × Reply}
    (k : ∀ f {t : State}, t.Balanced → (act f t).1.Balanced) (number : Byte) :
    (feedCommand number act s).1.Balanced := by
  unfold Machine.feedCommand
  split
  · exact h
  · exact k _ h

theorem cycleRule (h : s.Balanced) (p : Port) (f : FeedId) : (cycleRule p f s).1.Balanced := by
  unfold Machine.cycleRule
  split
  case isTrue k => exact h.cycle p (List.isEmpty_iff.1 k.2)
  case isFalse => exact h

theorem haltRule (h : s.Balanced) (p : Port) (f : FeedId) : (haltRule p f s).1.Balanced := by
  unfold Machine.haltRule
  split
  · exact h.aside (.haltWalk s f _ _)
  · exact h

theorem resumeRule (h : s.Balanced) (p : Port) (f : FeedId) : (resumeRule p f s).1.Balanced := by
  have resumed : (s.resumeWalk p f).Balanced := by
    have begun := (h.aside (.modFeed s f (g := fun x => { x with state := .walking }) (by simp))).aside
      (.post _ _ : Aside _ (State.postWalkStarted _ f (.port p) 3))
    unfold State.resumeWalk
    dsimp only
    split
    · exact begun.pauseOrLink fun pos _ k => k.visitEntry f pos
    · exact begun.resumeEntry f
    · exact begun
    · exact begun
  unfold Machine.resumeRule
  split
  · exact resumed
  · exact h

theorem endRule (h : s.Balanced) (p : Port) (f : FeedId) : (endRule p f s).1.Balanced := by
  unfold Machine.endRule
  split
  · exact h.endWalk f _ _
  · exact h

end State.Balanced

/-! ## Snapshots, starts and time (R5, R8, R43, R172) -/

theorem Aside.takeSnapshot (s : State) (p : Port) (keep : Bool) : Aside s (State.takeSnapshot p keep s).1 := by
  refine ⟨fun d => .inl ⟨?_, rfl⟩, fun f => ?_, fun f => ?_, fun f => ?_, fun _ => rfl⟩
  · rw [State.takeSnapshot_district]
    split <;> exact .of_eq rfl rfl
  all_goals
    rw [State.takeSnapshot_feed]
    split <;> rfl

/-- A millisecond moves timers alone (R5). -/
theorem Aside.tick (s : State) : Aside s s.tick := by
  have district : ∀ d, s.tick.district d = (s.district d).tick := fun d => by simp [State.tick, State.district]
  have feed : ∀ f, s.tick.feed f = (s.feed f).tick := fun f => by simp [State.tick, State.feed]
  refine ⟨fun d => .inl ⟨?_, rfl⟩, fun f => ?_, fun f => ?_, fun f => ?_, fun _ => rfl⟩
  · rw [district]; exact .of_eq rfl rfl
  all_goals rw [feed]; rfl

/-- After a start every district stands apart and every queue, pool and slot is free (R8, R172). -/
theorem State.Balanced.startUp (s : State) (pin : Bool) (pins : StartPins) : (s.startUp pin pins).Balanced := by
  have apart : ∀ d, ((s.startUp pin pins).district d).Apart := fun d => by
    rw [State.startUp_district]
    unfold startState
    split <;> exact ⟨by simp [resetDistrict], by simp [resetDistrict], rfl⟩
  have feed : ∀ f, ∃ raw ms, (s.startUp pin pins).feed f = resetFeed raw ms := fun f =>
    ⟨faultInput pins f, (s.startUp pin pins |>.fset f).debounce, by
      simp [State.startUp, State.post, State.cleared, State.feed, State.fset]⟩
  refine ⟨fun f => ?_, (State.poolLaw_iff _).2 ⟨fun d => ?_, fun f => ?_⟩⟩
  · obtain ⟨raw, ms, hf⟩ := feed f
    rw [hf]
    exact ⟨List.nodup_nil, fun d => by simp [resetFeed, (apart d).not_queued]⟩
  · simp [(apart d).soak, (apart d).not_soaking]
  · obtain ⟨raw, ms, hf⟩ := feed f
    have noCost : ∀ d, (s.startUp pin pins).costAt f d = 0 := fun d => by simp [State.costAt, (apart d).heldCost]
    have noSlot : ∀ d, (s.startUp pin pins).slotAt f d = 0 := fun d => by simp [State.slotAt, (apart d).soaksAlone]
    rw [hf]
    simp [resetFeed, noCost, noSlot]

/-! ## Every command, every step -/

/-- A request whose owner changes no record of a district or feed and no active setting. -/
theorem State.Balanced.serve_aside {s : State} (h : s.Balanced) (i : Instr) {body : State → State × Reply}
    (k : ∀ t, Aside t (body t).1) : (s.serve i body).Balanced := h.serve i fun ht => ht.aside (k _)

theorem State.Balanced.exec {s t : State} (h : s.Balanced) (c : Instr) (hc : exec c s = .next t) : t.Balanced := by
  have elsewhere : ∀ {u v : State}, v.districts = u.districts → v.feeds = u.feeds → v.activeImage = u.activeImage →
      Aside u v := fun hd hf hi => .of_eq (fun d => by simp only [State.district, hd])
    (fun f => by simp only [State.feed, hf]) (fun d => by simp only [State.dset, hi])
    (fun f => by simp only [State.fset, hi])
  cases c with
  | powerOn pins => cases hc; exact .startUp s _ _
  | resetPin pins => cases hc; exact .startUp s _ _
  | sampleArrival d level => cases hc; exact h.whenRunning (h.takeSample d _)
  | coolDownExpiry d => cases hc; exact h.whenRunning (h.coolDownExpires d)
  | settleExpiry d => cases hc; exact h.whenRunning (h.settleExpires d)
  | deadTimeExpiry d => cases hc; exact h.whenRunning (h.deadTimeExpires d)
  | lineChange f level => cases hc; exact h.whenRunning (h.lineChanges f level)
  | debounceExpiry f =>
    cases hc
    refine h.whenRunning ?_
    split
    · exact h.acceptHealthy f
    · exact h
  | pauseExpiry f => cases hc; exact h.whenRunning (h.pauseExpires f)
  | lingerExpiry p =>
    cases hc
    refine h.whenRunning ?_
    split
    · exact h.aside (.modPort s p _)
    · exact h
  | interByteTimeout p =>
    cases hc
    refine h.whenRunning ?_
    split
    · exact h.aside (.modPort s p _)
    · exact h
  | rxByte p b stopBit => cases hc; exact h.whenRunning (h.aside (.modPort s p _))
  | responseEnd p =>
    cases hc
    refine h.whenRunning ?_
    split
    · exact h.aside (.modPort s p _)
    · exact h
  | storeWriteEnd matched =>
    cases hc
    refine h.whenRunning (h.aside ?_)
    unfold State.writeEnds
    split <;> exact elsewhere rfl rfl rfl
  | readDistrict p n => cases hc; exact h.serve_aside _ fun u => .refl u
  | readDistrictStats p n => cases hc; exact h.serve_aside _ fun u => .refl u
  | readFeed p n => cases hc; exact h.serve_aside _ fun u => .refl u
  | readQueue p n => cases hc; exact h.serve_aside _ fun u => .refl u
  | readSettings p sel n img => cases hc; exact h.serve_aside _ fun u => .refl u
  | readChainEntry p i img => cases hc; exact h.serve_aside _ fun u => .refl u
  | readSnapshot p n => cases hc; exact h.serve_aside _ fun u => .refl u
  | readEvents p n =>
    cases hc
    refine h.serve_aside _ fun u => ?_
    unfold State.readEvents
    split <;> exact elsewhere rfl rfl rfl
  | readPortStatus p o =>
    cases hc
    refine h.serve_aside _ fun u => ?_
    unfold State.readPortStatus
    split
    · exact .refl u
    · split <;> exact elsewhere rfl rfl rfl
  | setAttention p tr l =>
    cases hc
    refine h.serve_aside _ fun u => ?_
    unfold State.setAttention
    split <;> exact elsewhere rfl rfl rfl
  | enable p m => cases hc; exact h.serve _ fun k => k.maskCommand p _ m fun d _ l => l.enableRule d
  | disable p m => cases hc; exact h.serve _ fun k => k.maskCommand p _ m fun d _ l => l.disableRule d
  | hold p m => cases hc; exact h.serve _ fun k => k.maskCommand p _ m fun d _ l => l.holdRule p d
  | release p m =>
    cases hc
    rw [releaseRule_eq]
    exact h.serve _ fun k => k.maskCommand p _ m fun d _ l => l.markRule (by simp) d
  | releaseForeign p m n =>
    cases hc
    refine h.serve _ fun k => ?_
    unfold Machine.releaseForeign
    split
    · exact k
    · rw [releaseRule_eq]
      exact k.maskCommand p _ m fun d _ l => l.markRule (by simp) d
  | clear p m => cases hc; exact h.serve _ fun k => k.maskCommand p _ m fun d _ l => l.clearRule d
  | markSeen p m =>
    cases hc
    rw [markSeenRule_eq]
    exact h.serve _ fun k => k.maskCommand p _ m fun d _ l => l.markRule (by simp) d
  | resetStats p m =>
    cases hc
    rw [resetStatsRule_eq]
    exact h.serve _ fun k => k.maskCommand p _ m fun d _ l => l.markRule (by simp) d
  | snapshot p => cases hc; exact h.serve_aside _ fun u => .takeSnapshot u p false
  | snapshotKeep p => cases hc; exact h.serve_aside _ fun u => .takeSnapshot u p true
  | setDistrict p n k v =>
    cases hc
    refine h.serve_aside _ fun u => ?_
    unfold State.writeDistrict
    split
    · exact .refl u
    · split <;> exact elsewhere rfl rfl rfl
  | setFeed p n k v =>
    cases hc
    refine h.serve_aside _ fun u => ?_
    unfold State.writeFeed
    split
    · exact .refl u
    · split <;> exact elsewhere rfl rfl rfl
  | setChainEntry p i en =>
    cases hc
    refine h.serve_aside _ fun u => ?_
    unfold State.writeChainEntry
    split <;> exact elsewhere rfl rfl rfl
  | apply p ds fs => cases hc; exact h.serve _ fun k => k.applySettings p ds fs
  | applyChains p =>
    cases hc
    refine h.serve_aside _ fun u => ?_
    unfold State.applyChains
    split
    · exact elsewhere rfl rfl rfl
    · exact .of_eq (fun _ => rfl) (fun _ => rfl) (fun _ => rfl) (fun _ => rfl)
  | save p =>
    cases hc
    refine h.serve_aside _ fun u => ?_
    unfold State.saveStarts
    split <;> exact elsewhere rfl rfl rfl
  | cycleFeed p n => cases hc; exact h.serve _ fun k => k.feedCommand (fun f _ l => l.cycleRule p f) n
  | haltWalk p n => cases hc; exact h.serve _ fun k => k.feedCommand (fun f _ l => l.haltRule p f) n
  | resumeWalk p n => cases hc; exact h.serve _ fun k => k.feedCommand (fun f _ l => l.resumeRule p f) n
  | endWalk p n => cases hc; exact h.serve _ fun k => k.feedCommand (fun f _ l => l.endRule p f) n
  | clearWalkErrors p n =>
    cases hc
    exact h.serve _ fun k => k.feedCommand (fun f _ l => l.aside (.modWalk _ f _)) n
  | resetAsserted => cases hc; exact h.aside (elsewhere rfl rfl rfl)

/-- Every step keeps the books balanced: a command from the queue, one that is due, or a millisecond. -/
theorem State.Balanced.step {s t : State} (h : s.Balanced) (hs : step s = .next t) : t.Balanced := by
  unfold Machine.step at hs
  split at hs
  case _ rest _ =>
    have queue : ({ s with pending := rest } : State).Balanced :=
      h.aside (.of_eq (fun _ => rfl) (fun _ => rfl) (fun _ => rfl) (fun _ => rfl))
    exact queue.exec _ hs
  · split at hs
    · exact h.exec _ hs
    · cases hs
      exact h.whenRunning (h.aside (.tick s))

/-- Settles O55: each command and each millisecond keeps the books balanced, one district's transfer at a time. -/
theorem everyStepKeepsTheQueueAndPoolLaws : Obligations.EveryStepKeepsTheQueueAndPoolLaws := by
  intro s t queue pool hs
  have balanced := State.Balanced.step ⟨queue, pool⟩ hs
  exact ⟨balanced.queue, balanced.pool⟩

end Sys2Proof.Machine
end

section
/-! # A soak that goes on or passes (R60, R64, R67, R74, R113) -/

namespace Sys2Proof.Machine

/-- A lawful SOAKING record that goes LIVE keeps its switch, its window and every field but the soak (R6, R74). -/
theorem District.Lawful.enter_live_of_soaking {r : District} (h : r.Lawful) (hs : r.state = .soaking) :
    r.enter .live = { r with state := .live, soak := none } := by
  have absent : ∀ {α : Type} {o : Option α}, ¬o.isSome = true → o = none := fun k => Option.not_isSome_iff_eq_none.1 k
  have closed : r.switch = .closed := h.closed_iff.2 (.inr (.inr hs))
  have preSwap : r.preSwap = none := absent fun k => by simpa [hs] using h.preSwap_iff.1 k
  have checkCount : r.checkCount = none := absent fun k => by simpa [hs] using h.checkCount_iff.1 k
  have coolDown : r.coolDown = none := h.coolDown_none (by simp [hs])
  have deadTime : r.deadTime = none := absent fun k => by simpa [hs] using h.swapping_of_deadTime k
  simp [District.enter, DState.energised, DState.isSwap, DState.settles, closed, preSwap, checkCount, coolDown,
    deadTime]

/-- A soak that passes, its district's part said in the rules' words (R67, R74). -/
theorem State.soakPass_eq {s : State} {d : DistrictId} (hl : (s.district d).Lawful)
    (hs : (s.district d).state = .soaking) (c : SoakContext) (e : Nat) :
    s.soakPass d { c with n := c.n + 1, e := e } =
      ((s.soakPassedAt d c e).soakEndNotice (s.feedOfDistrict d) d { c with n := c.n + 1, e := e }
        .passed).deferredCopy d := by
  obtain ⟨-, -, hrecoveries, -⟩ := id hl.stable.stats
  unfold State.soakPass State.soakPassedAt
  dsimp only
  congr 3
  refine State.modDistrict_congr ?_
  rw [hl.enter_live_of_soaking hs, Counter.rise_eq_oneMore hrecoveries]

/-- A district stands by the end of its own soak in success. -/
theorem StandsAt.soakPassedAt {s : State} {d : DistrictId} (hl : (s.district d).Lawful)
    (hs : (s.district d).state = .soaking) (c : SoakContext) (e : Nat) : StandsAt d s (s.soakPassedAt d c e) := by
  obtain ⟨-, -, hrecoveries, -⟩ := id hl.stable.stats
  have passed := District.Stands.soakPassed (ds := s.dset d) (r := s.district d) (by simp [hs]) (s.dset d).settle
    { e := e, used := c.n + 1, outcome := .passed }
  rw [hl.enter_live_of_soaking hs, Counter.rise_eq_oneMore hrecoveries] at passed
  exact (StandsAt.modDistrict fun _ => passed).trans (.post d _ _)

/-- An INDIVIDUAL soak that passes: district, feed and waiting copy follow each other (R74, R113, R115, R150). -/
theorem State.soakPass_settles {s : State} {d : DistrictId} (hl : (s.district d).Lawful)
    (hs : (s.district d).state = .soaking) {c : SoakContext} (hc : c.origin = .individual) (e : Nat) :
    ∃ u, ((s.soakPassedAt d c e).costReturned (s.feedOfDistrict d) c).FeedSettles (s.feedOfDistrict d) u ∧
      u.DistrictSettles d (s.soakPass d { c with n := c.n + 1, e := e }) := by
  refine ⟨_, State.feedSettles _ _, ?_⟩
  rw [State.soakPass_eq hl hs, State.soakEndNotice_of_individual (c := { c with n := c.n + 1, e := e }) hc]
  have settled := (StandsAt.soakPassedAt hl hs c e).trans (.soakEndNotice d _ (s.feedOfDistrict d) d c .passed)
  rw [State.soakEndNotice_of_individual hc] at settled
  exact State.deferredCopy_settles (settled.record.lawful hl)

/-- The soak arithmetic on a sample that the soak survives (R60, R61, R64). -/
theorem State.evaluateSoak_survives {s : State} {d : DistrictId} {x : Nat} {c : SoakContext}
    (hc : (s.district d).soak = some c) (hx : ¬s.MeetsHard d x) (hq : c.sumWith (s.dset d).h x ≤ (s.dset d).q) :
    (c.n + 1 ≠ (s.dset d).w → s.evaluateSoak d x = s.modDistrict d (fun r =>
      { r with soak := some { c with n := c.n + 1, e := c.sumWith (s.dset d).h x } })) ∧
    (c.n + 1 = (s.dset d).w → (s.district d).average ≤ (s.dset d).h →
      s.evaluateSoak d x = s.soakPass d { c with n := c.n + 1, e := c.sumWith (s.dset d).h x }) := by
  have sum : min Config.soakMax (c.e + excessOf x (s.dset d).h) = c.sumWith (s.dset d).h x := by
    simp only [Config.soakMax, excessOf, SoakContext.sumWith]; split <;> omega
  have hard : s.hardMet d x = false := by simpa [State.hardMet] using hx
  unfold State.evaluateSoak
  rw [hc]
  dsimp only
  rw [sum, hard, if_neg (by simp), if_neg (by omega)]
  refine ⟨fun hw => if_neg hw, fun hw average => ?_⟩
  rw [if_pos hw, if_pos average]

/-- Settles O23: the sample's first three steps, the arithmetic that the soak survives, and what follows its end. -/
theorem aSoakGoesOnOrPasses : Obligations.ASoakGoesOnOrPasses := by
  refine ⟨fun e => rfl, fun d x c s reaches soaking hsoak soft within => ?_⟩
  obtain ⟨hx, -, -, hl⟩ := id reaches
  have closed : (s.district d).switch = .closed := hl.closed_iff.2 (.inr (.inr soaking))
  have record : (s.recorded d x).district d = (s.district d).sampled (s.dset d) x := by simp
  have lawful : ((s.recorded d x).district d).Lawful := (StandsAt.recorded d hx hl closed).record.lawful hl
  have soaking' : ((s.recorded d x).district d).state = .soaking := by rw [record]; exact soaking
  have soft' : ¬(s.recorded d x).MeetsHard d x := by rw [State.MeetsHard, State.recorded_dset]; exact soft
  have feed : (s.recorded d x).feedOfDistrict d = s.feedOfDistrict d := by simp [State.feedOfDistrict]
  have evaluated : (s.recorded d x).evaluate d x = (s.recorded d x).evaluateSoak d x := by
    unfold State.evaluate
    rw [soaking']
  have survives := State.evaluateSoak_survives (s := s.recorded d x) (by rw [record]; exact hsoak) soft'
    (by rw [State.recorded_dset]; exact within)
  rw [State.recorded_dset, State.recorded_average] at survives
  obtain ⟨goesOn, passes⟩ := survives
  rw [exec_sampleArrival_eq reaches closed, evaluated]
  refine ⟨fun hw => by rw [goesOn hw], fun hw average individual _ => ?_⟩
  obtain ⟨u, settles, copies⟩ := State.soakPass_settles lawful soaking' individual (c.sumWith (s.dset d).h x)
  rw [feed] at settles
  exact ⟨u, settles, _, copies, by rw [passes hw average]⟩

end Sys2Proof.Machine
end

section
/-! # Walks whose counters are out of their range refute O25 and O32 (R139, R141)

Both statements ask for lawful district records only. R141's range of the walk counters is a law of the feed records
(`Feed.Lawful`), which they do not ask for: above 255 the model's counter goes on counting, where `State.walkOver` has
it roll over. -/

namespace Sys2Proof.Machine

/-! ## The end of a walk soak -/

/-- A sample of full scale at the last member in flight, as the part takes it: the soak fails hard, the walk ends
COMPLETED and its counter goes on from 300. -/
theorem overcounted_counts_on_after_sample {t : State}
    (h : exec (.sampleArrival 0 1023) overcounted = .next t) :
    (t.feed 0).completed = { count := 301, rolled := false } := by
  have ran : exec (.sampleArrival 0 1023) overcounted =
      .next (overcounted.whenRunning (fun s => s.takeSample 0 (senseCount 1023))) := rfl
  rw [ran, Host.Outcome.next.injEq] at h
  rw [← h]
  decide +kernel

/-- District 0 has failed its soak. -/
def overcountedFailed : State := (overcounted.recorded 0 1023).soakFailedAt 0 lastSoak .hard 0

/-- Its cost is back and the notice counted: the entry has no member in flight any more. -/
def overcountedDone : State := (overcountedFailed.costReturned 0 lastSoak).noticed 0 0 .failed

/-- The walk's end in the words of the statement. -/
def overcountedEnded : State :=
  (((overcountedDone.entryReported 0).walkOver 0 .device .completed).withGranted 0 [] []).chainsSettled

/-- Nothing waits in the queue of feed 0 when its walk has ended. -/
theorem overcountedDone_grants_none :
    ((overcountedDone.entryReported 0).walkOver 0 .device .completed).GrantsAre 0 [] [] ∧
      overcountedEnded.GrantsAre 0 [] [] :=
  ⟨State.grantsAre_nil (by decide +kernel), State.grantsAre_nil (by decide +kernel)⟩

/-- The notice in the words of the statement ends the walk. -/
theorem overcountedFailed_notified {v : State}
    (h : (overcountedFailed.costReturned 0 lastSoak).Notified 0 0 .failed v) : v = overcountedEnded := by
  obtain ⟨-, inEntry⟩ := h
  obtain ⟨-, completes⟩ := inEntry (by decide +kernel) overcountedDone rfl
  obtain ⟨-, -, links⟩ := (completes (.inr (by decide +kernel))).2 (by decide +kernel) (by decide +kernel) 1
  obtain ⟨ends, -⟩ := links (by decide +kernel) (.inl (by decide +kernel))
  exact ends (by decide +kernel) [] [] overcountedDone_grants_none.1

/-- Refutes O25: `overcounted` has lawful district records, and a hard sample at district 0 ends its feed's walk, whose
counter then stands at 301 and not at 0. -/
theorem not_aWalkSoakEndIsCounted : ¬ Obligations.AWalkSoakEndIsCounted := by
  intro h
  obtain ⟨v, notified, w, feedSettles, t, settles, ran⟩ :=
    h.2 0 1023 lastSoak 0 .failed .hard 0 overcounted (by decide +kernel) (by decide +kernel) rfl (by decide) rfl
      (by decide +kernel) (.inr (.inl ⟨rfl, by decide +kernel, rfl, rfl⟩)) overcountedFailed rfl
  rw [overcountedFailed_notified notified] at feedSettles
  have settled := feedSettles.1 (by decide +kernel) [] [] overcountedDone_grants_none.2
  subst settled
  have counted := overcounted_counts_on_after_sample ran
  rw [settles.1 (by decide +kernel)] at counted
  exact absurd counted (by decide +kernel)

/-! ## The walk of a recovered feed -/

/-- Feed 0 is about to be accepted as HEALTHY, with a chain whose first entry is empty; district 0 is DARK and twice
suspect, and the counter of ended walks is out of its range. -/
def overcountedDark : State :=
  ({ State.reset with
      activeImage := defaultImage.withFeed 0 { defaultFeed with chainHead := some 0 } }.setDistrict 0
    { resetDistrict .dark with suspect := 2 }).modFeed 0 (fun x =>
      { x with debounce := some 0, ended := { count := 300, rolled := false } })

/-- The HEALTHY level as the part accepts it: the walk ends with LINK-ERROR and its counter goes on from 300. -/
theorem overcountedDark_counts_on {t : State} (h : exec (.debounceExpiry 0) overcountedDark = .next t) :
    (t.feed 0).ended = { count := 301, rolled := false } := by
  have ran : exec (.debounceExpiry 0) overcountedDark = .next (overcountedDark.whenRunning (fun s =>
      if (s.feed 0).debounce = some 0 then s.acceptHealthy 0 else s)) := rfl
  rw [ran, Host.Outcome.next.injEq] at h
  rw [← h]
  decide +kernel

/-- The feed is WALKING and its walk has begun. -/
def overcountedBegun : State :=
  ((overcountedDark.modFeed 0 (fun x =>
      { x with debounce := none, accepted := .healthy, rose := true, state := .walking })).post
    { kind := .feedUp, subject := .feed 0, origin := .device, detail := 1
      value := districtMask (overcountedDark.inState 0 .dark) }).walkBegun 0 .device 1

/-- The walk has found its first entry empty. -/
def overcountedLost : State :=
  overcountedBegun.modWalk 0 (fun w =>
    { w with position := .entry 0, stepCount := w.stepCount + 1, linkError := true })

/-- Refutes O32: `overcountedDark` has lawful district records, and the walk of its feed 0 ends with LINK-ERROR at its
first entry, after which the counter of ended walks stands at 301 and not at 0. -/
theorem not_aRecoveredFeedIsWalked : ¬ Obligations.ARecoveredFeedIsWalked := by
  intro h
  obtain ⟨t, visits, ran⟩ := h 0 (.entry 0) overcountedDark (by decide +kernel) (by decide +kernel) (by decide +kernel)
    (by decide +kernel) (.inl ⟨0, by decide +kernel, rfl⟩) overcountedBegun rfl
  obtain ⟨fails, -⟩ := visits 0
  have ends : overcountedLost.EndsWalk 0 .device .linkError t :=
    fails ⟨0, rfl, .inr (.inl (by decide +kernel))⟩
  have ended := ends [] [] (State.grantsAre_nil (by decide +kernel))
  have counted := overcountedDark_counts_on ran
  rw [ended] at counted
  exact absurd counted (by decide +kernel)

end Sys2Proof.Machine
end

section
/-! # Grace: what each change leaves of it, and of the swaps it stands under (R79, R85 to R87, R90) -/

namespace Sys2Proof.Machine

/-! ## Grace that eases -/

/-- District `v` swaps and has `d` as its active partner: the reason for which `d` may be in grace (R81, R90). -/
def State.Guards (s : State) (v d : DistrictId) : Prop :=
  s.activeImage.partnerOf v = some d ∧ (s.district v).state.isSwap = true

theorem DState.isSwap_iff (st : DState) : st.isSwap = true ↔ st = .swapping ∨ st = .swapCheck := by
  cases st <;> simp [DState.isSwap]

theorem State.graceLaw_iff (s : State) :
    s.GraceLaw ↔ ∀ d, (s.district d).grace = true → ∃ v, s.Guards v d := by
  simp only [State.GraceLaw, State.Guards, DState.isSwap_iff]

/-- From `s` to `t` no district comes to be in grace, and one that still is in grace keeps every swap it is in grace
under. -/
structure Eases (s t : State) : Prop where
  grace : ∀ {d}, (t.district d).grace = true → (s.district d).grace = true
  guards : ∀ {d v}, (t.district d).grace = true → s.Guards v d → t.Guards v d

theorem State.GraceLaw.eases {s t : State} (h : s.GraceLaw) (k : Eases s t) : t.GraceLaw := by
  rw [State.graceLaw_iff] at h ⊢
  exact fun d hd => (h d (k.grace hd)).imp fun _ => k.guards hd

theorem Eases.refl (s : State) : Eases s s := ⟨id, fun _ => id⟩

theorem Eases.trans {s t u : State} (h : Eases s t) (k : Eases t u) : Eases s u :=
  ⟨fun hd => h.grace (k.grace hd), fun hd hv => k.guards hd (h.guards (k.grace hd) hv)⟩

theorem Eases.foldl {α : Type} {act : State → α → State} (h : ∀ s a, Eases s (act s a)) (l : List α) (s : State) :
    Eases s (l.foldl act s) := by
  induction l generalizing s with
  | nil => exact .refl s
  | cons a l ih => exact (h s a).trans (ih _)

/-- Whose partner is whose is told by the district sets alone (R79). -/
theorem Image.partnerOf_congr {i j : Image} (h : i.districts = j.districts) (v : DistrictId) :
    i.partnerOf v = j.partnerOf v := by
  obtain ⟨districts, _, _⟩ := i
  subst h
  rfl

/-- Grace and swaps are told by the districts' states and flags and the active district sets. -/
theorem Eases.of_same {s t : State} (hs : ∀ d, (t.district d).state = (s.district d).state)
    (hg : ∀ d, (t.district d).grace = (s.district d).grace)
    (hi : t.activeImage.districts = s.activeImage.districts) : Eases s t := by
  refine ⟨fun {d} => by rw [hg]; exact id, fun {d v} _ hv => ?_⟩
  rw [State.Guards, hs, Image.partnerOf_congr hi]
  exact hv

theorem Eases.of_eq {s t : State} (hd : t.districts = s.districts)
    (hi : t.activeImage.districts = s.activeImage.districts) : Eases s t :=
  .of_same (fun d => by simp only [State.district, hd]) (fun d => by simp only [State.district, hd]) hi

theorem Eases.modFeed (s : State) (f : FeedId) (g : Feed → Feed) : Eases s (s.modFeed f g) := .of_eq rfl rfl

theorem Eases.modWalk (s : State) (f : FeedId) (g : Walk → Walk) : Eases s (s.modWalk f g) := .of_eq rfl rfl

theorem Eases.modPort (s : State) (p : Port) (g : PortRecord → PortRecord) : Eases s (s.modPort p g) := .of_eq rfl rfl

theorem Eases.post (s : State) (ev : Event) : Eases s (s.post ev) := .of_eq rfl rfl

/-! ## Districts whose swap may end -/

/-- No district is in grace under a swap of `v`, so that `v` may leave the swap (R90). -/
def State.Spares (s : State) (v : DistrictId) : Prop := ∀ d, s.Guards v d → (s.district d).grace = false

theorem State.Spares.of_not_swap {s : State} {v : DistrictId} (h : (s.district v).state.isSwap = false) : s.Spares v :=
  fun _ hv => absurd hv.2 (by simp [h])

/-- Where `v` spares its partner, it does so after a change that says nothing of states and grace. -/
theorem State.Spares.rewrites {s : State} {v d : DistrictId} (h : s.Spares v) {g : District → District}
    (hs : (g (s.district d)).state = (s.district d).state := by rfl)
    (hg : (g (s.district d)).grace = (s.district d).grace := by rfl) :
    (s.modDistrict d g).Spares v := by
  have same : ∀ e, ((s.modDistrict d g).district e).state = (s.district e).state ∧
      ((s.modDistrict d g).district e).grace = (s.district e).grace := fun e => by
    rw [State.district_modDistrict]
    split
    · subst e; exact ⟨hs, hg⟩
    · exact ⟨rfl, rfl⟩
  rintro e ⟨partner, swap⟩
  rw [(same v).1] at swap
  rw [(same e).2]
  exact h e ⟨partner, swap⟩

theorem State.Spares.post {s : State} {v : DistrictId} (h : s.Spares v) (ev : Event) : (s.post ev).Spares v := h

/-- A district's record changes: it does not come to be in grace, and it leaves a swap only where it spares its
partner. -/
theorem Eases.modDistrict {s : State} {d : DistrictId} {g : District → District}
    (hg : (g (s.district d)).grace = true → (s.district d).grace = true)
    (hs : s.Spares d ∨ (g (s.district d)).state.isSwap = (s.district d).state.isSwap) :
    Eases s (s.modDistrict d g) := by
  have grace : ∀ e, ((s.modDistrict d g).district e).grace = true → (s.district e).grace = true := fun e => by
    rw [State.district_modDistrict]
    split
    · subst e; exact hg
    · exact id
  refine ⟨grace _, fun {e v} he hv => ⟨hv.1, ?_⟩⟩
  rw [State.district_modDistrict]
  split
  · subst v
    rcases hs with spares | same
    · exact absurd (grace e he) (by simp [spares e hv])
    · rw [same]; exact hv.2
  · exact hv.2

/-- A record is rewritten without a word on its state and its grace. -/
theorem Eases.rewrites (s : State) (d : DistrictId) {g : District → District}
    (hs : (g (s.district d)).state = (s.district d).state := by rfl)
    (hg : (g (s.district d)).grace = (s.district d).grace := by rfl) :
    Eases s (s.modDistrict d g) := .modDistrict (by rw [hg]; exact id) (.inr (by rw [hs]))

theorem District.grace_of_enter {r : District} {st : DState} (h : (r.enter st).grace = true) : r.grace = true := by
  rw [District.enter_grace] at h
  split at h
  · exact h
  · simp at h

/-- A district enters a state, with whatever else is written there. -/
theorem Eases.enters {s : State} {d : DistrictId} (h : s.Spares d) (st : DState) {g : District → District}
    (hg : (g (s.district d)).grace = ((s.district d).enter st).grace := by rfl) : Eases s (s.modDistrict d g) :=
  .modDistrict (fun k => District.grace_of_enter (hg ▸ k)) (.inl h)

theorem Eases.enter {s : State} {d : DistrictId} (h : s.Spares d) (st : DState) :
    Eases s (s.modDistrict d (fun r => r.enter st)) := .enters h st

/-! ## The end of a partner's grace (R85 to R87) -/

theorem Eases.endGrace (s : State) (v : DistrictId) : Eases s (s.endGrace v) := by
  unfold State.endGrace
  split
  · exact .refl s
  · exact .modDistrict (by simp) (.inr rfl)

theorem State.Spares.endGrace (s : State) (v : DistrictId) : (s.endGrace v).Spares v := by
  rintro d ⟨partner, -⟩
  have partner' : s.activeImage.partnerOf v = some d := by
    unfold State.endGrace at partner
    split at partner <;> exact partner
  simp [State.endGrace, partner']

theorem Eases.abandonSwap (s : State) (d : DistrictId) : Eases s (s.abandonSwap d) := by
  unfold State.abandonSwap
  split
  · exact .endGrace s d
  · exact .refl s

theorem State.Spares.abandonSwap (s : State) (d : DistrictId) : (s.abandonSwap d).Spares d := by
  unfold State.abandonSwap
  split
  · exact .endGrace s d
  · exact .of_not_swap (Bool.eq_false_iff.2 ‹_›)

/-! ## The arbiter (chapters 03, 05) -/

/-- A grant takes QUEUED districts into SOAKING, out of grace (R55). -/
theorem Grants.eases {f : FeedId} {s t : State} (h : Grants f s t) : Eases s t := by
  refine ⟨fun {d} hd => ?_, fun {d v} _ hv => ?_⟩
  · rcases h.districts d with same | ⟨-, -, granted⟩
    · rwa [same] at hd
    · rw [granted] at hd
      exact District.grace_of_enter (st := .soaking) hd
  · rw [State.Guards, h.records.activeImage, h.bystander fun queued => absurd hv.2 (by simp [queued, DState.isSwap])]
    exact hv

theorem Eases.runGrantRule (s : State) (f : FeedId) : Eases s (s.runGrantRule f) := (s.runGrantRule_grants f).eases

theorem Eases.enqueue {s : State} {d : DistrictId} (h : s.Spares d) (f : FeedId) : Eases s (s.enqueue f d) :=
  (Eases.enter h _).trans (.modFeed _ f _)

theorem Eases.join {s : State} {d : DistrictId} (h : s.Spares d) (f : FeedId) : Eases s (s.join f d) :=
  (Eases.enqueue h f).trans (.runGrantRule _ f)

theorem Eases.returnToService {s : State} {d : DistrictId} (h : s.Spares d) : Eases s (s.returnToService d) := by
  unfold State.returnToService
  split
  · exact .join h _
  · exact .enter h _

theorem Eases.leaveFor {s : State} {d : DistrictId} (h : s.Spares d) (f : FeedId) (st : DState) :
    Eases s (s.leaveFor f d st) := by
  unfold State.leaveFor
  dsimp only
  split
  · exact (Eases.enter h st).trans ((Eases.modFeed _ f _).trans (.runGrantRule _ f))
  · exact .enter h st

theorem Eases.latch {s : State} {d : DistrictId} (h : s.Spares d) (cause : Cause) : Eases s (s.latch d cause) :=
  (Eases.enters h .latched).trans (.post _ _)

theorem Eases.tripOrLatch {s : State} {d : DistrictId} (h : s.Spares d) (cause : Cause) :
    Eases s (s.tripOrLatch d cause) := by
  unfold State.tripOrLatch
  split
  · exact .latch h cause
  · exact .enters h .tripped

/-! ## The walker (chapter 06) -/

theorem State.Spares.of_dark {s : State} {d : DistrictId} (h : (s.district d).state = .dark) : s.Spares d :=
  .of_not_swap (by rw [h]; rfl)

theorem Eases.settleDark {s : State} {d : DistrictId} (f : FeedId) (h : (s.district d).state = .dark) :
    Eases s (s.settleDark f d) := by
  unfold State.settleDark
  split
  · exact (Eases.rewrites s d).trans (.latch (.of_dark (by simpa using h)) _)
  · exact .enqueue (.of_dark h) f

theorem Eases.settleAll (f : FeedId) (ds : List DistrictId) (s : State) (hn : ds.Nodup)
    (h : ∀ d ∈ ds, (s.district d).state = .dark) : Eases s (ds.foldl (State.settleDark f) s) := by
  induction ds generalizing s with
  | nil => exact .refl s
  | cons d ds ih =>
    rw [List.nodup_cons] at hn
    refine (Eases.settleDark f (h d (by simp))).trans (ih _ hn.2 fun e he => ?_)
    rw [s.settleDark_other f (by rintro rfl; exact hn.1 he)]
    exact h e (by simp [he])

theorem Eases.copyWaitingChains (s : State) : Eases s s.copyWaitingChains := by
  unfold State.copyWaitingChains
  split
  · exact .of_eq rfl rfl
  · exact .refl s

theorem Eases.haltWalk (s : State) (f : FeedId) (o : Origin) (why : HaltReason) : Eases s (s.haltWalk f o why) :=
  .of_eq rfl rfl

theorem Eases.endWalk (s : State) (f : FeedId) (o : Origin) (why : EndReason) : Eases s (s.endWalk f o why) := by
  have settled := Eases.settleAll f _ (s.modWalk f (fun w => w.stopped why.lastEnd))
    ((s.modWalk f (fun w => w.stopped why.lastEnd)).inState_nodup f .dark)
    (fun d hd => ((State.mem_inState _ _ _ _).1 hd).2)
  exact ((Eases.modWalk s f _).trans settled).trans ((Eases.modFeed _ f _).trans ((Eases.post _ _).trans
    ((Eases.modFeed _ f _).trans ((Eases.runGrantRule _ f).trans (.copyWaitingChains _)))))

theorem Eases.admitMember {s : State} {m : DistrictId} (f : FeedId) (h : (s.district m).state = .dark) :
    Eases s (s.admitMember f m) := by
  unfold State.admitMember
  exact (Eases.modFeed s f _).trans (.enters (.of_dark (by simpa using h)) .soaking)

theorem Eases.admitFrom (f : FeedId) (ms : List DistrictId) (s : State) : Eases s (admitFrom f ms s) := by
  induction ms generalizing s with
  | nil => exact .refl s
  | cons m rest ih =>
    have skip : ∀ t : State, Eases t (t.skipMember f) := fun t => .modWalk t f _
    unfold Machine.admitFrom
    dsimp only
    split
    · split
      · exact ((Eases.modWalk s f _).trans (skip _)).trans (.haltWalk _ f _ _)
      · exact ((Eases.modWalk s f _).trans (skip _)).trans (ih _)
    · split
      · exact (skip s).trans (ih _)
      case isFalse dark =>
        split
        · exact (Eases.admitMember f (not_not.1 (not_or.1 dark).1)).trans (ih _)
        · exact .modWalk s f _

theorem Eases.pauseOrLink {f : FeedId} {visit : Position → State → State} (hv : ∀ pos s, Eases s (visit pos s))
    (s : State) : Eases s (s.pauseOrLink visit f) := by
  unfold State.pauseOrLink
  split
  · exact .modWalk s f _
  · split
    · exact .endWalk s f _ _
    · exact hv _ s

theorem Eases.complete {f : FeedId} {visit : Position → State → State} (hv : ∀ pos s, Eases s (visit pos s))
    (s : State) : Eases s (s.complete visit f) := by
  have posted : Eases s (s.postEntryDone f) := .post s _
  unfold State.complete
  split
  · split
    · exact posted.trans (.modWalk _ f _)
    · exact posted.trans (.pauseOrLink hv _)
  · exact .refl s

theorem Eases.visit (n : Nat) (f : FeedId) (pos : Position) (s : State) : Eases s (visit n f pos s) := by
  induction n generalizing pos s with
  | zero => exact .refl s
  | succ n ih =>
    have moved := Eases.modWalk s f (fun w => { w with position := pos, stepCount := w.stepCount + 1 })
    unfold Machine.visit
    dsimp only
    split
    · exact moved.trans ((Eases.modWalk _ f _).trans (.endWalk _ f _ _))
    · exact moved.trans (((Eases.modWalk _ f _).trans (.admitFrom f _ _)).trans (.complete (fun _ _ => ih _ _) _))

theorem Eases.followLink (s : State) (f : FeedId) : Eases s (s.followLink f) := by
  unfold State.followLink
  split
  · exact .endWalk s f _ _
  · exact .visit _ f _ s

theorem Eases.startWalk (s : State) (f : FeedId) (o : Origin) (reason : Nat) : Eases s (s.startWalk f o reason) := by
  have go : ∀ t : State, Eases t (match t.firstPosition f with
      | none => t.endWalk f .device .completed
      | some pos => t.visitEntry f pos) := fun t => by
    split
    · exact .endWalk t f _ _
    · exact .visit _ f _ t
  exact (Eases.modWalk s f _).trans ((Eases.post _ _).trans (go _))

theorem Eases.resumeEntry (s : State) (f : FeedId) : Eases s (s.resumeEntry f) :=
  (Eases.admitFrom f _ s).trans (.complete (fun pos s => .visit _ f pos s) _)

theorem Eases.walkNotice (s : State) (f : FeedId) (d : DistrictId) (o : NoticeOutcome) :
    Eases s (s.walkNotice f d o) := by
  have halt : ∀ t : State, Eases t (if o = .failed ∧ (t.fset f).haltOnError = true ∧ (t.feed f).state = .walking
      then t.haltWalk f .device (.memberFailed d) else t) := fun t => by
    split
    · exact .haltWalk t f _ _
    · exact .refl t
  have retry : ∀ t : State, Eases t (if (t.feed f).state = .walking ∧ (t.walk f).waiting = true then
      t.runAdmission f else t) := fun t => by
    split
    · exact .admitFrom f _ t
    · exact .refl t
  unfold State.walkNotice
  split
  · exact .refl s
  · exact (Eases.modWalk s f _).trans
      ((halt _).trans ((retry _).trans (.complete (fun pos s => .visit _ f pos s) _)))

/-! ## Notices and copies (chapters 05, 07) -/

theorem Eases.copyFeed (s : State) (f : FeedId) : Eases s (s.copyFeed f) :=
  (Eases.of_eq rfl rfl : Eases s (s.installFeed f)).trans (.runGrantRule _ f)

theorem Eases.copyWaitingFeed (s : State) (f : FeedId) : Eases s (s.copyWaitingFeed f) := by
  have installed : Eases s (s.installFeed f) := .of_eq rfl rfl
  unfold State.copyWaitingFeed
  split
  · exact installed.trans ((Eases.post _ _).trans (.runGrantRule _ f))
  · exact .refl s

theorem Eases.soakEndNotice (s : State) (f : FeedId) (d : DistrictId) (c : SoakContext) (o : NoticeOutcome) :
    Eases s (s.soakEndNotice f d c o) := by
  have pass : ∀ t : State, Eases t (if c.origin = .individual then t else t.walkNotice f d o) := fun t => by
    split
    · exact .refl t
    · exact .walkNotice t f d o
  exact (Eases.modFeed s f _).trans ((pass _).trans ((Eases.runGrantRule _ f).trans (.copyWaitingFeed _ f)))

theorem Eases.correct (s : State) (named : Half) (o : Origin) (d : DistrictId) : Eases s (s.correct named o d) := by
  obtain ⟨districts, -, image, -⟩ := s.correct_frame named o d
  exact .of_eq districts (by rw [image])

theorem Image.guardianOf_iff {i : Image} {v p : DistrictId} : i.guardianOf p = some v ↔ i.partnerOf v = some p :=
  ⟨fun h => by simpa using List.find?_some h, Image.guardianOf_of_partnerOf⟩

/-- A copied set ends the grace of a district whose guardian it changes, and leaves every other relation (R79, R151). -/
theorem Eases.setCopied (s : State) (d : DistrictId) : Eases s (s.setCopied d) := by
  refine ⟨fun {e} he => ?_, fun {e v} he hv => ?_⟩ <;>
    rw [State.setCopied_district, Bool.and_eq_true, decide_eq_true_eq] at he
  · exact he.1
  · refine ⟨Image.guardianOf_iff.1 ?_, by simpa using hv.2⟩
    rw [State.setCopied_activeImage, he.2]
    exact Image.guardianOf_iff.2 hv.1

theorem Eases.straightened (s : State) (d : DistrictId) : Eases s (s.straightened d) :=
  .rewrites s d (by split <;> rfl) (by split <;> rfl)

theorem DState.not_swap_of_not_defersApply {st : DState} (h : st.defersApply = false) : st.isSwap = false := by
  cases st <;> simp_all [DState.isSwap, DState.defersApply]

theorem Eases.changeFeedOrKind {s : State} {d : DistrictId} (old : FeedId)
    (hd : (s.district d).state.defersApply = false) : Eases s (s.changeFeedOrKind old d) := by
  have straight := Eases.straightened s d
  have spares : (s.straightened d).Spares d := .of_not_swap (by
    rw [State.straightened_state]; exact DState.not_swap_of_not_defersApply hd)
  rcases DState.of_not_defersApply hd with off | latched | service
  · rw [State.changeFeedOrKind_of_off old off]
    exact straight
  · rw [State.changeFeedOrKind_of_latched old latched]
    split
    · exact straight.trans (.enter spares _)
    · exact straight
  · have dark : ((s.straightened d).leaveFor old d .dark).Spares d := .of_dark (by
      rw [State.leaveFor_district _ _ _ (by simp)]; rfl)
    rw [State.changeFeedOrKind_of_service old service]
    split
    · exact straight.trans (.leaveFor spares _ _)
    · exact straight.trans ((Eases.leaveFor spares _ _).trans (.returnToService dark))

theorem Eases.copyDistrict {s : State} {d : DistrictId} (hd : (s.district d).state.defersApply = false) :
    Eases s (s.copyDistrict d) := by
  have copied := Eases.setCopied s d
  unfold State.copyDistrict
  rw [State.installDistrict_eq_setCopied]
  dsimp only
  split
  · split
    · exact copied.trans (.runGrantRule _ _)
    · exact copied
  · exact copied.trans (.changeFeedOrKind _ (by rw [State.setCopied_state]; exact hd))

theorem Eases.deferredCopy (s : State) (d : DistrictId) : Eases s (s.deferredCopy d) := by
  unfold State.deferredCopy
  split
  case isTrue waits =>
    simp only [Bool.and_eq_true, Bool.not_eq_true'] at waits
    exact (Eases.correct s 0 .device d).trans ((Eases.rewrites _ d).trans ((Eases.post _ _).trans
      (.copyDistrict (by simpa using waits.2))))
  case isFalse => exact .refl s

end Sys2Proof.Machine
end

section
/-! # Grace through samples, faults and swaps (chapters 02 to 05) -/

namespace Sys2Proof.Machine

/-! ## Trips and soak ends (R39, R66, R74) -/

theorem State.Spares.of_live {s : State} {d : DistrictId} (h : (s.district d).state = .live) : s.Spares d :=
  .of_not_swap (by rw [h]; rfl)

theorem Eases.trip {s : State} {d : DistrictId} (h : s.Spares d) (why : Condition) (figure : Nat) :
    Eases s (s.trip d why figure) := by
  unfold State.trip State.postDistrict
  exact (Eases.rewrites s d).trans ((Eases.post _ _).trans (.tripOrLatch (h.rewrites.post _) _))

theorem Eases.excuse (s : State) (d : DistrictId) (figure : Nat) : Eases s (s.excuse d figure) :=
  (Eases.rewrites s d).trans (.post _ _)

theorem State.Spares.excuse {s : State} {d : DistrictId} (h : s.Spares d) (figure : Nat) :
    (s.excuse d figure).Spares d := by
  unfold State.excuse State.postDistrict
  exact h.rewrites.post _

theorem Eases.soakFail {s : State} {d : DistrictId} (h : s.Spares d) (c : SoakContext) (why : SoakFailure) :
    Eases s (s.soakFail d c why) := by
  unfold State.soakFail State.postDistrict
  dsimp only
  exact ((Eases.rewrites s d).trans ((Eases.post _ _).trans (.tripOrLatch (h.rewrites.post _) _))).trans
    ((Eases.soakEndNotice _ _ d c _).trans (.deferredCopy _ d))

theorem Eases.soakPass {s : State} {d : DistrictId} (h : s.Spares d) (c : SoakContext) : Eases s (s.soakPass d c) := by
  unfold State.soakPass State.postDistrict
  dsimp only
  exact ((Eases.enters h .live).trans (.post _ _)).trans ((Eases.soakEndNotice _ _ d c _).trans (.deferredCopy _ d))

/-! ## Swaps (R81, R83, R85, R86) -/

/-- The partner's grace ends as well before a change at the swapping district as after it. -/
theorem State.endGrace_modDistrict (s : State) (v : DistrictId) (g : District → District) :
    (s.modDistrict v g).endGrace v = (s.endGrace v).modDistrict v g := by
  unfold State.endGrace
  rw [State.modDistrict_activeImage]
  cases partner : s.activeImage.partnerOf v with
  | none => rfl
  | some p =>
    have apart := (Image.partnerOf_plain partner).1
    refine OnlyRecords.eq_of_records ?_ (fun e => ?_) (fun _ => rfl)
    · exact ⟨rfl, rfl, rfl, rfl, rfl, rfl, rfl, rfl, rfl, rfl, rfl⟩
    · by_cases hv : e = v
      · subst e; simp [State.district_modDistrict, apart.symm]
      · by_cases hp : e = p <;> simp [State.district_modDistrict, hv, hp, apart]

theorem Eases.swapSuccess (s : State) (v : DistrictId) : Eases s (s.swapSuccess v) := by
  have ended : ∀ (g : District → District) (ev : Event),
      ((s.modDistrict v g).post ev).endGrace v = ((s.endGrace v).modDistrict v g).post ev := fun g ev => by
    rw [← State.endGrace_modDistrict]
    unfold State.endGrace
    rw [State.post_activeImage]
    split <;> rfl
  unfold State.swapSuccess State.postDistrict
  dsimp only
  rw [ended]
  refine Eases.trans ?_ (.deferredCopy _ v)
  exact (Eases.endGrace s v).trans ((Eases.enters (.endGrace s v) .live).trans (.post _ _))

theorem Eases.swapFail (s : State) (v : DistrictId) (test figure : Nat) : Eases s (s.swapFail v test figure) := by
  unfold State.swapFail State.postDistrict
  exact ((Eases.rewrites s v).trans ((Eases.post _ _).trans ((Eases.endGrace _ v).trans
    (.tripOrLatch (.endGrace _ v) _)))).trans (.deferredCopy _ v)

/-- A district comes to be in grace under a swap that guards it (R90). -/
theorem State.GraceLaw.shelters {s : State} {v p : DistrictId} (h : s.GraceLaw) (guards : s.Guards v p) :
    (s.modDistrict p (fun r => { r with grace := true, deferral := none })).GraceLaw := by
  rw [State.graceLaw_iff] at h ⊢
  have kept : ∀ {w e}, s.Guards w e →
      (s.modDistrict p (fun r => { r with grace := true, deferral := none })).Guards w e := fun {w e} hw => by
    refine ⟨hw.1, ?_⟩
    rw [State.district_modDistrict]
    split
    · subst w; exact hw.2
    · exact hw.2
  intro e he
  by_cases hp : e = p
  · subst e; exact ⟨v, kept guards⟩
  · rw [State.district_modDistrict_of_ne hp] at he
    exact (h e he).imp fun _ => kept

/-- A swap begins: the one district that comes to be in grace is the partner of the district that now swaps (R81). -/
theorem State.GraceLaw.swapTrigger {s : State} {v : DistrictId} (h : s.GraceLaw) (live : (s.district v).state = .live) :
    (s.swapTrigger v).GraceLaw := by
  have begun : (s.modDistrict v (fun r =>
      { r with preSwap := some r.polarity, polarity := r.polarity.toggled
               deadTime := some (s.dset v).deadTime }.enter .swapping)).GraceLaw :=
    h.eases (.enters (.of_live live) .swapping (by simp))
  unfold State.swapTrigger
  dsimp only
  split
  · exact begun
  case _ p partner =>
    split
    · exact begun.shelters ⟨partner, by simp [DState.isSwap]⟩
    · exact begun

theorem Eases.deadTimeExpires (s : State) (d : DistrictId) : Eases s (s.deadTimeExpires d) := by
  unfold State.deadTimeExpires
  split
  case isTrue due => exact .modDistrict (District.grace_of_enter (st := .swapCheck)) (.inr (by rw [due.1]; rfl))
  case isFalse => exact .refl s

/-! ## Samples (R34 to R38, R80, R84, R91, R92) -/

theorem Eases.evaluateLive {s : State} {d : DistrictId} (h : s.Spares d) (x : Nat) : Eases s (s.evaluateLive d x) := by
  have excused := Eases.excuse s d x
  unfold State.evaluateLive
  dsimp only
  split
  · split
    · exact .trip h _ _
    · split
      · exact excused.trans (.trip (h.excuse x) _ _)
      · exact excused
  · split
    · exact .trip h _ _
    · exact .refl s

theorem Eases.evaluatePlain {s : State} {d : DistrictId} (h : s.Spares d) (x : Nat) :
    Eases s (s.evaluatePlain d x) := by
  unfold State.evaluatePlain
  split
  · exact .refl s
  · split
    · exact .rewrites s d
    · exact .evaluateLive h x

theorem Eases.resolveDeferral {s : State} {d : DistrictId} (h : s.Spares d) (df : Deferral) :
    Eases s (s.resolveDeferral d df) := by
  have resolved := Eases.rewrites s d (g := fun r => { r with deferral := none })
  unfold State.resolveDeferral
  dsimp only
  split
  · exact resolved.trans (.excuse _ d _)
  · exact resolved.trans (.trip h.rewrites _ _)

theorem Eases.evaluatePartner {s : State} {d : DistrictId} (h : s.Spares d) (x : Nat) :
    Eases s (s.evaluatePartner d x) := by
  unfold State.evaluatePartner
  split
  · exact .refl s
  · split
    · exact .evaluatePlain h x
    case _ df _ =>
      have resolved := Eases.resolveDeferral h df
      dsimp only
      split
      · exact resolved.trans (.evaluatePlain (.of_live ‹_›) x)
      · exact resolved

theorem Eases.evaluateCheck (s : State) (d : DistrictId) (x : Nat) : Eases s (s.evaluateCheck d x) := by
  have counted := fun n : Nat => Eases.rewrites s d (g := fun r => { r with checkCount := some n })
  unfold State.evaluateCheck
  split
  · exact .swapFail s d _ _
  · split
    · exact .swapFail s d _ _
    · dsimp only
      split
      · exact (counted _).trans (.swapSuccess _ d)
      · exact counted _

theorem Eases.evaluateSoak {s : State} {d : DistrictId} (h : s.Spares d) (x : Nat) : Eases s (s.evaluateSoak d x) := by
  unfold State.evaluateSoak
  split
  · exact .refl s
  · dsimp only
    split
    · exact .soakFail h _ _
    · split
      · exact .soakFail h _ _
      · split
        · split
          · exact .soakPass h _
          · exact .soakFail h _ _
        · exact .rewrites s d

namespace State.GraceLaw
variable {s : State}

theorem evaluateReversing (h : s.GraceLaw) {d : DistrictId} (live : (s.district d).state = .live) (x : Nat) :
    (s.evaluateReversing d x).GraceLaw := by
  unfold State.evaluateReversing
  split
  · exact h.swapTrigger live
  · split
    · split
      · exact h.swapTrigger live
      · exact h.eases (.trip (.of_live live) _ _)
    · exact h

theorem evaluate (h : s.GraceLaw) (d : DistrictId) (x : Nat) : (s.evaluate d x).GraceLaw := by
  unfold State.evaluate
  split
  case _ soaking => exact h.eases (.evaluateSoak (.of_not_swap (by rw [soaking]; rfl)) x)
  case _ => exact h.eases (.evaluateCheck s d x)
  case _ live =>
    split
    · exact h.evaluateReversing live x
    · exact h.eases (.evaluatePartner (.of_live live) x)
  all_goals exact h

theorem takeSample (h : s.GraceLaw) (d : DistrictId) (x : Nat) : (s.takeSample d x).GraceLaw := by
  have judged : ∀ t : State, Eases t (t.judgeOccupancy d) := fun t => by
    unfold State.judgeOccupancy
    dsimp only
    split
    · split
      · exact (Eases.rewrites t d).trans (.post _ _)
      · exact .rewrites t d
    · exact .refl t
  unfold State.takeSample
  split
  · exact h
  · exact evaluate (h.eases ((Eases.rewrites s d).trans (judged _))) d x

end State.GraceLaw

/-! ## Entry to OFF, darkening and the accepted fault (R11, R99, R101, R116) -/

theorem District.recordSoak_grace (r : District) (o : SoakOutcome) : (r.recordSoak o).grace = r.grace := by
  rw [District.recordSoak_eq]

/-- A swap is abandoned before its district leaves it (R11 step 5, R87). -/
theorem Eases.offBegun (s : State) (d : DistrictId) : Eases s (s.offBegun d) :=
  (Eases.abandonSwap s d).trans (.rewrites _ d (District.recordSoak_state _ _) (District.recordSoak_grace _ _))

theorem State.Spares.offBegun (s : State) (d : DistrictId) : (s.offBegun d).Spares d :=
  (State.Spares.abandonSwap s d).rewrites (District.recordSoak_state _ _) (District.recordSoak_grace _ _)

theorem Eases.toOff (s : State) (d : DistrictId) : Eases s (s.toOff d) := by
  have left : Eases s (s.leftForOff d) := (Eases.offBegun s d).trans (.leaveFor (.offBegun s d) _ _)
  rw [State.toOff_eq]
  split
  · exact left.trans (.soakEndNotice _ _ d _ _)
  · exact left

theorem Eases.darken (f : FeedId) (s : State) (d : DistrictId) : Eases s (s.darken f d) := by
  rw [State.darken_eq]
  exact (Eases.offBegun s d).trans ((Eases.enter (.offBegun s d) _).trans (.modFeed _ f _))

theorem Eases.capture (s : State) (f : FeedId) : Eases s (s.capture f) :=
  (Eases.modFeed s f _).trans (.foldl (fun t d => .rewrites t d) _ _)

theorem Eases.abortAnyWalk (s : State) (f : FeedId) : Eases s (s.abortAnyWalk f) := by
  unfold State.abortAnyWalk
  split <;> exact .of_eq rfl rfl

theorem Eases.acceptFault (s : State) (f : FeedId) : Eases s (s.acceptFault f) := by
  have darkened := (Eases.capture s f).trans (.foldl (Eases.darken f) ((s.capture f).toDarken f) _)
  unfold State.acceptFault
  exact (darkened.trans ((Eases.modFeed _ f _).trans ((Eases.abortAnyWalk _ f).trans ((Eases.modFeed _ f _).trans
    (.post _ _))))).trans ((Eases.foldl .deferredCopy _ _).trans ((Eases.copyWaitingFeed _ f).trans
      (.copyWaitingChains _)))

theorem Eases.cycle (s : State) (p : Port) (f : FeedId) : Eases s (s.cycle p f) := by
  unfold State.cycle
  exact ((Eases.foldl (Eases.darken f) _ s).trans (.modFeed _ f _)).trans
    ((Eases.foldl .deferredCopy _ _).trans (.startWalk _ f _ _))

end Sys2Proof.Machine
end

section
/-! # Every step keeps the grace law (R90) -/

namespace Sys2Proof.Machine

/-! ## Expiries and fault lines (R20, R49, R83, R98, R103, R130) -/

theorem Eases.coolDownExpires (s : State) (d : DistrictId) : Eases s (s.coolDownExpires d) := by
  unfold State.coolDownExpires
  split
  case isTrue due => exact .join (.of_not_swap (by rw [due.1]; rfl)) _
  case isFalse => exact .refl s

theorem Eases.settleExpires (s : State) (d : DistrictId) : Eases s (s.settleExpires d) := by
  unfold State.settleExpires
  split
  · exact (Eases.rewrites s d).trans (.post _ _)
  · exact .refl s

theorem Eases.lineChanges (s : State) (f : FeedId) (level : Level) : Eases s (s.lineChanges f level) := by
  unfold State.lineChanges
  split
  · exact .refl s
  · split
    · dsimp only
      split
      · exact (Eases.modFeed s f _).trans (.acceptFault _ f)
      · exact .modFeed s f _
    · exact .modFeed s f _

theorem Eases.acceptHealthy (s : State) (f : FeedId) : Eases s (s.acceptHealthy f) := by
  have risen := fun (g : Feed → Feed) (ev : Event) (k : Feed → Feed) =>
    (Eases.modFeed s f g).trans ((Eases.post _ ev).trans (.modFeed _ f k))
  unfold State.acceptHealthy
  dsimp only
  split
  · exact risen _ _ _
  · exact (risen _ _ _).trans (.startWalk _ f _ _)

theorem Eases.pauseExpires (s : State) (f : FeedId) : Eases s (s.pauseExpires f) := by
  unfold State.pauseExpires
  split
  · exact (Eases.modWalk s f _).trans (.followLink _ f)
  · exact .refl s

/-! ## Requests at their owners (R9 to R17, R43, R134 to R137, R148 to R154) -/

theorem Eases.whenRunning {s : State} {act : State → State} (h : Eases s (act s)) : Eases s (s.whenRunning act) := by
  unfold State.whenRunning
  split
  · exact .refl s
  · exact h

/-- An effect that takes place under a condition. -/
theorem Eases.ite {s t : State} {c : Prop} [Decidable c] (h : Eases s t) : Eases s (if c then t else s) := by
  split
  · exact h
  · exact .refl s

theorem Eases.serve (s : State) (i : Instr) {body : State → State × Reply} (h : ∀ t, Eases t (body t).1) :
    Eases s (s.serve i body) := by
  have taken : ∀ p, Eases s (s.takeRequest p) := fun p => .ite (.modPort s p _)
  unfold State.serve
  split
  · exact .refl s
  · refine .whenRunning ?_
    split
    · exact .refl s
    · split
      · exact .modPort s _ _
      · dsimp only
        split
        · exact (taken _).trans ((h _).trans (.modPort _ _ _))
        · exact (taken _).trans (.modPort _ _ _)

/-- A mask command eases where its rule does at each district (R9). -/
theorem Eases.maskCommand (s : State) (p : Port) (c : Command) (mask : Half)
    {rule : DistrictId → State → State × Verdict} (h : ∀ d t, Eases t (rule d t).1) :
    Eases s (maskCommand p c mask rule s).1 := by
  have all : ∀ (ds : List DistrictId) (t : Tally), Eases t.state (ds.foldl (Tally.step p c rule) t).state := by
    intro ds
    induction ds with
    | nil => exact fun t => .refl _
    | cons d ds ih =>
      refine fun t => Eases.trans ?_ (ih _)
      have posted : Eases t.state ((rule d t.state).1.postCommandState p c d) := (h d _).trans (.post _ _)
      rw [Tally.step_eq]
      exact .ite (posted.trans (.ite (.deferredCopy _ d)))
  exact all (namedDistricts mask) { state := s, done := [], unchanged := [], refused := [] }

theorem Eases.enableRule (d : DistrictId) (s : State) : Eases s (enableRule d s).1 := by
  unfold Machine.enableRule
  split
  case _ off =>
    have spares : s.Spares d := .of_not_swap (by rw [off]; rfl)
    split
    · exact (Eases.rewrites s d).trans (.returnToService spares.rewrites)
    · exact .refl s
  all_goals exact .refl s

theorem Eases.clearRule (d : DistrictId) (s : State) : Eases s (clearRule d s).1 := by
  unfold Machine.clearRule
  split
  case isTrue latched =>
    have spares : s.Spares d := .of_not_swap (by rw [latched]; rfl)
    exact (Eases.rewrites s d).trans (.returnToService spares.rewrites)
  case isFalse => exact .refl s

theorem Eases.disableRule (d : DistrictId) (s : State) : Eases s (disableRule d s).1 := by
  unfold Machine.disableRule
  split
  · exact .refl s
  · exact .toOff s d

theorem Eases.holdRule (p : Port) (d : DistrictId) (s : State) : Eases s (holdRule p d s).1 := by
  have marked := Eases.rewrites s d (g := fun r => { r with holds := r.holds.put true p })
  unfold Machine.holdRule
  split
  · exact .refl s
  · dsimp only
    split
    · exact marked
    · exact marked.trans (.toOff _ d)

theorem Eases.markRule {test : District → Bool} {g : District → District}
    (hg : ∀ r, (g r).state = r.state ∧ (g r).grace = r.grace) (d : DistrictId) (s : State) :
    Eases s (markRule test g d s).1 := by
  unfold Machine.markRule
  split
  · exact .rewrites s d (hg _).1 (hg _).2
  · exact .refl s

theorem Eases.applySettings (p : Port) (districts : Half) (feeds : Byte) (s : State) :
    Eases s (State.applySettings p districts feeds s).1 := by
  have each : ∀ (ds : List DistrictId) (t : ApplyTally),
      Eases t.state (ds.foldl (ApplyTally.district p districts) t).state := by
    intro ds
    induction ds with
    | nil => exact fun t => .refl _
    | cons d ds ih =>
      refine fun t => Eases.trans ?_ (ih _)
      have corrected := Eases.correct t.state districts (.port p) d
      unfold ApplyTally.district
      dsimp only
      split
      · dsimp only
        exact corrected.trans (.rewrites _ d)
      case isFalse free => exact corrected.trans (.copyDistrict (Bool.eq_false_iff.2 free))
  have feedwise : ∀ (fs : List FeedId) (t : ApplyTally), Eases t.state (fs.foldl ApplyTally.feed t).state := by
    intro fs
    induction fs with
    | nil => exact fun t => .refl _
    | cons f fs ih =>
      refine fun t => Eases.trans ?_ (ih _)
      unfold ApplyTally.feed
      split
      · exact .copyFeed _ f
      · dsimp only
        exact .modFeed _ f _
  unfold State.applySettings
  split
  · exact .refl s
  · have applied := (each (namedDistricts districts) (State.applyBegun s)).trans (feedwise (namedFeeds feeds) _)
    dsimp only
    split
    · exact applied
    · exact applied.trans (.post _ _)

theorem Eases.feedCommand {act : FeedId → State → State × Reply} (h : ∀ f t, Eases t (act f t).1) (number : Byte)
    (s : State) : Eases s (feedCommand number act s).1 := by
  unfold Machine.feedCommand
  split
  · exact .refl s
  · exact h _ s

theorem Eases.resumeWalk (s : State) (p : Port) (f : FeedId) : Eases s (s.resumeWalk p f) := by
  have begun : Eases s ((s.modFeed f (fun x => { x with state := .walking })).postWalkStarted f (.port p) 3) :=
    (Eases.modFeed s f _).trans (.post _ _)
  unfold State.resumeWalk
  dsimp only
  split
  · exact begun.trans (.pauseOrLink (fun pos t => .visit _ f pos t) _)
  · exact begun.trans (.resumeEntry _ f)
  · exact begun
  · exact begun

/-- The commands that name one feed and act on it in some of its states (R116, R134 to R136). -/
theorem Eases.feedRule {s t : State} {c : Prop} [Decidable c] {accepted refused : Reply} (h : Eases s t) :
    Eases s (if c then (t, accepted) else (s, refused)).1 := by
  split
  · exact h
  · exact .refl s

theorem Eases.takeSnapshot (p : Port) (keep : Bool) (s : State) : Eases s (State.takeSnapshot p keep s).1 := by
  refine .of_same (fun d => ?_) (fun d => ?_) rfl <;> rw [State.takeSnapshot_district] <;> split <;> rfl

/-! ## Starts and time (R5, R8, R172) -/

/-- A start leaves no district in grace (R8). -/
theorem Eases.startUp (s : State) (pin : Bool) (pins : StartPins) : Eases s (s.startUp pin pins) := by
  have none : ∀ d, ((s.startUp pin pins).district d).grace = false := fun d => by rw [State.startUp_district]; rfl
  exact ⟨fun hd => by simp [none] at hd, fun hd => by simp [none] at hd⟩

theorem Eases.tick (s : State) : Eases s s.tick := by
  have record : ∀ d, s.tick.district d = (s.district d).tick := fun d => by simp [State.tick, State.district]
  exact .of_same (fun d => by rw [record]; rfl) (fun d => by rw [record]; rfl) rfl

/-! ## Every command, every step -/

theorem State.GraceLaw.exec {s t : State} (h : s.GraceLaw) (c : Instr) (hc : exec c s = .next t) : t.GraceLaw := by
  cases c with
  | powerOn pins | resetPin pins => cases hc; exact h.eases (.startUp s _ pins)
  | sampleArrival d level =>
    cases hc
    unfold State.whenRunning
    split
    · exact h
    · exact h.takeSample d _
  | coolDownExpiry d => cases hc; exact h.eases (.whenRunning (.coolDownExpires s d))
  | settleExpiry d => cases hc; exact h.eases (.whenRunning (.settleExpires s d))
  | deadTimeExpiry d => cases hc; exact h.eases (.whenRunning (.deadTimeExpires s d))
  | lineChange f level => cases hc; exact h.eases (.whenRunning (.lineChanges s f level))
  | debounceExpiry f => cases hc; exact h.eases (.whenRunning (.ite (.acceptHealthy s f)))
  | pauseExpiry f => cases hc; exact h.eases (.whenRunning (.pauseExpires s f))
  | lingerExpiry p | interByteTimeout p | responseEnd p =>
    cases hc; exact h.eases (.whenRunning (.ite (.modPort s p _)))
  | rxByte p b stopBit => cases hc; exact h.eases (.whenRunning (.modPort s p _))
  | storeWriteEnd matched =>
    cases hc
    refine h.eases (.whenRunning ?_)
    unfold State.writeEnds
    split <;> exact .of_eq rfl rfl
  | readDistrict p n | readDistrictStats p n | readFeed p n | readQueue p n | readSettings p k n i
  | readChainEntry p n i | readSnapshot p n => cases hc; exact h.eases (.serve s _ fun u => .refl u)
  | readEvents p n =>
    cases hc
    refine h.eases (.serve s _ fun u => ?_)
    unfold State.readEvents
    split <;> exact .of_eq rfl rfl
  | readPortStatus p o =>
    cases hc
    refine h.eases (.serve s _ fun u => ?_)
    unfold State.readPortStatus
    split
    · exact .refl u
    · split <;> exact .of_eq rfl rfl
  | setAttention p tr l =>
    cases hc
    refine h.eases (.serve s _ fun u => ?_)
    unfold State.setAttention
    split <;> exact .of_eq rfl rfl
  | enable p m => cases hc; exact h.eases (.serve s _ fun u => .maskCommand u p _ m .enableRule)
  | disable p m => cases hc; exact h.eases (.serve s _ fun u => .maskCommand u p _ m .disableRule)
  | hold p m => cases hc; exact h.eases (.serve s _ fun u => .maskCommand u p _ m (.holdRule p))
  | clear p m => cases hc; exact h.eases (.serve s _ fun u => .maskCommand u p _ m .clearRule)
  | release p m =>
    cases hc
    rw [releaseRule_eq]
    exact h.eases (.serve s _ fun u => .maskCommand u p _ m (.markRule (by simp)))
  | releaseForeign p m n =>
    cases hc
    refine h.eases (.serve s _ fun u => ?_)
    unfold Machine.releaseForeign
    split
    · exact .refl u
    · rw [releaseRule_eq]
      exact .maskCommand u p _ m (.markRule (by simp))
  | markSeen p m =>
    cases hc
    rw [markSeenRule_eq]
    exact h.eases (.serve s _ fun u => .maskCommand u p _ m (.markRule (by simp)))
  | resetStats p m =>
    cases hc
    rw [resetStatsRule_eq]
    exact h.eases (.serve s _ fun u => .maskCommand u p _ m (.markRule (by simp)))
  | snapshot p | snapshotKeep p => cases hc; exact h.eases (.serve s _ (.takeSnapshot p _))
  | setDistrict p n k v =>
    cases hc
    refine h.eases (.serve s _ fun u => ?_)
    unfold State.writeDistrict
    split
    · exact .refl u
    · split <;> exact .of_eq rfl rfl
  | setFeed p n k v =>
    cases hc
    refine h.eases (.serve s _ fun u => ?_)
    unfold State.writeFeed
    split
    · exact .refl u
    · split <;> exact .of_eq rfl rfl
  | setChainEntry p i en =>
    cases hc
    refine h.eases (.serve s _ fun u => ?_)
    unfold State.writeChainEntry
    split <;> exact .of_eq rfl rfl
  | apply p ds fs => cases hc; exact h.eases (.serve s _ (.applySettings p ds fs))
  | applyChains p =>
    cases hc
    refine h.eases (.serve s _ fun u => ?_)
    unfold State.applyChains
    split <;> exact .of_eq rfl rfl
  | save p =>
    cases hc
    refine h.eases (.serve s _ fun u => ?_)
    unfold State.saveStarts
    split <;> exact .of_eq rfl rfl
  | cycleFeed p n =>
    cases hc; exact h.eases (.serve s _ (.feedCommand (fun f u => .feedRule (.cycle u p f)) n))
  | haltWalk p n =>
    cases hc; exact h.eases (.serve s _ (.feedCommand (fun f u => .feedRule (.haltWalk u f _ _)) n))
  | resumeWalk p n =>
    cases hc; exact h.eases (.serve s _ (.feedCommand (fun f u => .feedRule (.resumeWalk u p f)) n))
  | endWalk p n =>
    cases hc; exact h.eases (.serve s _ (.feedCommand (fun f u => .feedRule (.endWalk u f _ _)) n))
  | clearWalkErrors p n => cases hc; exact h.eases (.serve s _ (.feedCommand (fun f u => .modWalk u f _) n))
  | resetAsserted => cases hc; exact h.eases (.of_eq rfl rfl)

/-- Settles O52: a command from the queue, one that is due, or a millisecond. Only the beginning of a swap puts a
district in grace (`State.GraceLaw.swapTrigger`); all else eases. -/
theorem everyStepKeepsTheGraceLaw : Obligations.EveryStepKeepsTheGraceLaw := by
  intro s t h hs
  unfold Machine.step at hs
  split at hs
  case _ rest _ =>
    have queue : ({ s with pending := rest } : State).GraceLaw := h.eases (.of_eq rfl rfl)
    exact queue.exec _ hs
  · split at hs
    · exact h.exec _ hs
    · cases hs
      exact h.eases (.whenRunning (.tick s))

end Sys2Proof.Machine
end

section
/-! # Swaps and swap checks in the rules' words (R79 to R86, R89) -/

namespace Sys2Proof.Machine

/-! ## The active partner (R79) -/

theorem Image.partnerOf_iff (i : Image) (v p : DistrictId) :
    i.partnerOf v = some p ↔
      (i.district v).kind = .reversing ∧ (i.district v).partner = some p ∧ p ≠ v ∧ (i.district p).kind = .plain ∧
        ∀ e, e < v → ¬((i.district e).kind = .reversing ∧ (i.district e).partner = some p) := by
  have first : ∀ q, (allDistricts.all (fun e => decide (v ≤ e) || !(i.district e).claims q)) = true ↔
      ∀ e, e < v → ¬((i.district e).kind = .reversing ∧ (i.district e).partner = some q) := fun q => by
    simp only [List.all_eq_true, mem_allDistricts, true_implies, Bool.or_eq_true, decide_eq_true_eq,
      Bool.not_eq_true', ← Bool.not_eq_true, DistrictSet.claims_iff, ← not_lt, ← imp_iff_not_or]
  unfold Image.partnerOf
  cases setting : (i.district v).partner with
  | none => simp
  | some q =>
    simp only [first]
    constructor
    · intro found
      split at found
      case isTrue stands =>
        obtain rfl : q = p := by simpa using found
        obtain ⟨reversing, apart, plain, lowest⟩ := stands
        exact ⟨reversing, rfl, apart, plain, lowest⟩
      case isFalse => simp at found
    · rintro ⟨reversing, named, apart, plain, lowest⟩
      obtain rfl : q = p := by simpa using named
      rw [if_pos ⟨reversing, apart, plain, lowest⟩]

/-- The end of a partner's grace, in the rules' words (R85, R86). -/
theorem State.endGrace_eq (s : State) (v : DistrictId) : s.endGrace v = s.partnerGraceOver v := by
  unfold State.endGrace State.partnerGraceOver
  cases s.activeImage.partnerOf v <;> rfl

/-! ## A swap begins, and its dead time ends (R80, R81, R83) -/

/-- The record of a LIVE district whose swap begins, `ms` being its dead time, in the rules' words (R81). -/
def District.swapOpened (r : District) (ms : Nat) : District :=
  { r.darkened .swapping with
    settle := r.settle, preSwap := some r.polarity, deadTime := some ms, polarity := r.polarity.toggled }

/-- A record on watch that starts to swap gives up its window, and keeps its settle timer (R6, R20, R31). -/
theorem District.OnWatch.enter_swapping {r : District} (h : r.OnWatch) (ms : Nat) :
    { r with preSwap := some r.polarity, polarity := r.polarity.toggled, deadTime := some ms }.enter .swapping =
      r.swapOpened ms := by
  obtain ⟨lawful, live, grace, deferral⟩ := h
  have closed : r.switch = .closed := lawful.closed_iff.2 (.inl live)
  have soak : r.soak = none := lawful.soak_none (by simp [live])
  have coolDown : r.coolDown = none := lawful.coolDown_none (by simp [live])
  have checkCount : r.checkCount = none := Option.not_isSome_iff_eq_none.1 fun k => by
    simpa [live] using lawful.checkCount_iff.1 k
  simp [District.swapOpened, District.enter, District.darkened, District.clearWindow, clearedWindow, DState.energised,
    DState.isSwap, DState.settles, closed, grace, deferral, soak, checkCount, coolDown]

section Trigger
variable {s : State} {d : DistrictId} (watch : (s.district d).OnWatch)
include watch

/-- The swap trigger at a district with a LIVE partner (R81). -/
theorem State.swapTrigger_of_partner {p : DistrictId} (partner : s.activeImage.partnerOf d = some p)
    (live : (s.district p).state = .live) :
    s.swapTrigger d = (s.modDistrict d (fun r => r.swapOpened (s.dset d).deadTime)).modDistrict p (fun r =>
      { r with grace := true, deferral := none }) := by
  have apart := (Image.partnerOf_plain partner).1
  unfold State.swapTrigger
  dsimp only
  rw [State.modDistrict_congr (g' := fun r => r.swapOpened (s.dset d).deadTime) (watch.enter_swapping _),
    State.modDistrict_activeImage, partner]
  exact if_pos (by rwa [State.district_modDistrict_of_ne apart])

/-- The swap trigger at a district without a LIVE partner (R81). -/
theorem State.swapTrigger_alone (alone : ∀ p, s.activeImage.partnerOf d = some p → (s.district p).state ≠ .live) :
    s.swapTrigger d = s.modDistrict d (fun r => r.swapOpened (s.dset d).deadTime) := by
  unfold State.swapTrigger
  dsimp only
  rw [State.modDistrict_congr (g' := fun r => r.swapOpened (s.dset d).deadTime) (watch.enter_swapping _),
    State.modDistrict_activeImage]
  cases partner : s.activeImage.partnerOf d with
  | none => rfl
  | some p =>
    refine if_neg ?_
    rw [State.district_modDistrict_of_ne (Image.partnerOf_plain partner).1]
    exact alone p partner

end Trigger

/-- A sample that makes a LIVE REVERSING district swap (R80). -/
theorem exec_sampleArrival_swaps {s : State} {d : DistrictId} {x : Nat} (reaches : s.SampleReaches d x)
    (live : (s.district d).state = .live) (reversing : (s.dset d).kind = .reversing)
    (grace : (s.district d).grace = false) (deferral : (s.district d).deferral = none)
    (swaps : s.MeetsHard d x ∨ s.MeetsSlow d x ∧ (s.dset d).swapOnSlow = true) :
    ((s.recorded d x).district d).OnWatch ∧ exec (.sampleArrival d x) s = .next ((s.recorded d x).swapTrigger d) := by
  obtain ⟨-, -, -, hl⟩ := id reaches
  have judges := State.Judges.of_recorded reaches live grace
  rw [State.recorded_undeferred deferral] at judges
  refine ⟨judges.record, ?_⟩
  rw [exec_sampleArrival_eq reaches (hl.closed_iff.2 (.inl live)), State.evaluate, judges.record.live]
  dsimp only
  rw [if_pos (by simp [reversing]), State.evaluateReversing]
  by_cases hard : s.MeetsHard d x
  · rw [if_pos (judges.hard.2 hard)]
  · obtain ⟨slow, onSlow⟩ := swaps.resolve_left hard
    rw [if_neg (mt judges.hard.1 hard), if_pos (judges.slow.2 slow), if_pos (by simp [onSlow])]

/-- A lawful record in a swap has, of the fields that a state may hold, none but the swap's own (R6). -/
structure District.Swaps (r : District) : Prop where
  soak : r.soak = none
  deferral : r.deferral = none
  grace : r.grace = false
  coolDown : r.coolDown = none

theorem District.Lawful.swaps {r : District} (h : r.Lawful) (hs : r.state.isSwap = true) : r.Swaps := by
  have other : ∀ st : DState, st.isSwap = false → r.state ≠ st := fun st k e => by simp [e, k] at hs
  exact ⟨h.soak_none (other _ rfl), Option.not_isSome_iff_eq_none.1 fun k => other _ rfl (h.live_of_deferral k),
    Bool.eq_false_iff.2 fun k => other _ rfl (h.live_of_grace k), h.coolDown_none (other _ rfl)⟩

/-- The dead time of a lawful record ends (R83). -/
theorem District.Lawful.enter_swapCheck {r : District} (h : r.Lawful) (hs : r.state = .swapping) :
    { r.enter .swapCheck with checkCount := some 0 } =
      { r with state := .swapCheck, switch := .closed, deadTime := none, checkCount := some 0 } := by
  obtain ⟨soak, deferral, grace, coolDown⟩ := h.swaps (by rw [hs]; rfl)
  simp [District.enter, DState.energised, DState.isSwap, DState.settles, soak, deferral, grace, coolDown]

/-- Settles O26: the relation by its definition, the swap by the rules of its trigger, the dead time by the fields of a
lawful SWAPPING record. -/
theorem aSwapOpensWaitsAndCloses : Obligations.ASwapOpensWaitsAndCloses := by
  refine ⟨fun i v p => ⟨i.partnerOf_iff v p, Image.guardianOf_iff⟩,
    fun d x s reaches live reversing grace deferral swaps => ?_, fun d s running lawful => ?_⟩
  · obtain ⟨watch, ran⟩ := exec_sampleArrival_swaps reaches live reversing grace deferral swaps
    rw [ran]
    refine ⟨(s.recorded d x).modDistrict d (fun r => r.swapOpened (s.dset d).deadTime), rfl,
      fun p partner partnerLive => ?_, fun alone => ?_⟩
    · have apart := (Image.partnerOf_plain partner).1
      rw [State.swapTrigger_of_partner watch (by simpa using partner) (by simpa [apart] using partnerLive),
        State.recorded_dset]
    · rw [State.swapTrigger_alone watch, State.recorded_dset]
      intro p partner
      rw [State.recorded_activeImage] at partner
      simpa [(Image.partnerOf_plain partner).1] using alone p partner
  · have ran : exec (.deadTimeExpiry d) s = .next (s.deadTimeExpires d) :=
      congrArg _ (State.whenRunning_of_running running _)
    rw [ran, State.deadTimeExpires]
    refine ⟨fun due => ?_, fun waits => by rw [if_neg fun k => waits k.2]⟩
    have swapping := lawful.swapping_of_deadTime (by simp [due])
    rw [if_pos ⟨swapping, due⟩]
    exact congrArg _ (State.modDistrict_congr (lawful.enter_swapCheck swapping))

/-! ## The swap check (R84) -/

/-- A sample at a district in SWAP-CHECK is left to the swap check (R34, R84). -/
theorem exec_sampleArrival_checks {s : State} {d : DistrictId} {x : Nat} (reaches : s.SampleReaches d x)
    (check : (s.district d).state = .swapCheck) :
    ((s.recorded d x).district d).Lawful ∧ ((s.recorded d x).district d).state = .swapCheck ∧
      exec (.sampleArrival d x) s = .next ((s.recorded d x).evaluateCheck d x) := by
  obtain ⟨hx, -, -, hl⟩ := id reaches
  have closed : (s.district d).switch = .closed := hl.closed_iff.2 (.inr (.inl check))
  have check' : ((s.recorded d x).district d).state = .swapCheck := by simpa [District.sampled] using check
  exact ⟨(StandsAt.recorded d hx hl closed).record.lawful hl, check',
    by rw [exec_sampleArrival_eq reaches closed, State.evaluate, check']⟩

section Check
variable {s : State} {d : DistrictId} {x : Nat}

/-- A sample of the check window that meets neither condition (R84, R85). -/
theorem State.evaluateCheck_of_quiet {n : Nat} (hard : ¬s.MeetsHard d x)
    (slow : ¬(s.dset d).t ≤ (s.district d).average) (count : (s.district d).checkCount = some n) :
    s.evaluateCheck d x =
      if n + 1 = (s.dset d).checkWindow then
        (s.modDistrict d (fun r => { r with checkCount := some (n + 1) })).swapSuccess d
      else s.modDistrict d (fun r => { r with checkCount := some (n + 1) }) := by
  unfold State.evaluateCheck
  rw [if_neg (by simpa [State.hardMet] using hard), if_neg (by simpa [State.slowMet] using slow), count]
  rfl

/-- The first condition met fails the swap, the hard one before the slow one (R84, R86). -/
theorem State.evaluateCheck_of_met {test figure : Nat}
    (met : s.MeetsHard d x ∧ test = 1 ∧ figure = x ∨
      ¬s.MeetsHard d x ∧ (s.dset d).t ≤ (s.district d).average ∧ test = 2 ∧ figure = (s.district d).average) :
    s.evaluateCheck d x = s.swapFail d test figure := by
  unfold State.evaluateCheck
  rcases met with ⟨hard, rfl, rfl⟩ | ⟨hard, slow, rfl, rfl⟩
  · rw [if_pos (by simpa [State.hardMet] using hard)]
  · rw [if_neg (by simpa [State.hardMet] using hard), if_pos (by simpa [State.slowMet] using slow)]

end Check

/-! ## The two ends of a swap (R85, R86, R89) -/

/-- A lawful record in SWAP-CHECK, its switch CLOSED and its dead time over (R2, R6). -/
structure District.Checks (r : District) : Prop extends r.Swaps where
  state : r.state = .swapCheck
  switch : r.switch = .closed
  deadTime : r.deadTime = none

theorem District.Lawful.checks {r : District} (h : r.Lawful) (hs : r.state = .swapCheck) : r.Checks :=
  ⟨h.swaps (by rw [hs]; rfl), hs, h.closed_iff.2 (.inr (.inl hs)),
    Option.not_isSome_iff_eq_none.1 fun k => by simpa [hs] using h.swapping_of_deadTime k⟩

/-- The record of a district whose swap has succeeded, in the rules' words (R85). -/
def District.swapWon (r : District) : District :=
  { r with
    state := .live, checkCount := none, preSwap := none, stats := { r.stats with swaps := r.stats.swaps.oneMore } }

/-- A swap has succeeded at its district, before a waiting copy is made, in the rules' words (R85). -/
def State.swapWonAt (s : State) (d : DistrictId) : State :=
  ((s.modDistrict d District.swapWon).postDistrict .swapped d (s.district d).polarity.code
    (s.district d).average).partnerGraceOver d

theorem District.Checks.enter_live {r : District} (h : r.Checks) (swaps : r.stats.swaps.count ≤ 255) :
    { r.enter .live with stats := { r.stats with swaps := r.stats.swaps.rise } } = r.swapWon := by
  obtain ⟨⟨soak, deferral, grace, coolDown⟩, -, switch, deadTime⟩ := h
  rw [Counter.rise_eq_oneMore swaps]
  simp [District.swapWon, District.enter, DState.energised, DState.isSwap, DState.settles, switch, soak, deferral,
    grace, coolDown, deadTime]

/-- A swap succeeds as the rules say, and a waiting copy is made after it (R85, R89, R150). -/
theorem State.swapSuccess_settles {s : State} {d : DistrictId} (lawful : (s.district d).Lawful)
    (check : (s.district d).state = .swapCheck) : (s.swapWonAt d).DistrictSettles d (s.swapSuccess d) := by
  obtain ⟨-, -, -, -, -, swaps, -⟩ := id lawful.stable.stats
  have won := (lawful.checks check).enter_live swaps
  have lawful' : (s.district d).swapWon.Lawful := by
    have entered := (District.Stands.enter (ds := s.dset d) (r := s.district d) (st := .live) (by simp [check])
      (by simp)).lawful lawful
    exact won ▸ entered.with_stats lawful.stable.stats.swapped
  have ends : s.swapSuccess d = (s.swapWonAt d).deferredCopy d := by
    unfold State.swapSuccess State.swapWonAt
    dsimp only
    rw [State.modDistrict_congr (g' := District.swapWon) won, State.endGrace_eq, State.district_modDistrict_same]
    rfl
  rw [ends]
  refine State.deferredCopy_settles ?_
  rw [State.swapWonAt, ← State.endGrace_eq, State.endGrace_district, State.postDistrict_district,
    State.district_modDistrict_same]
  exact lawful'

/-- A swap that succeeds gives up its check count, whatever that was. -/
theorem State.swapWonAt_counted (s : State) (d : DistrictId) (n : Nat) :
    (s.modDistrict d (fun r => { r with checkCount := some n })).swapWonAt d = s.swapWonAt d := by
  unfold State.swapWonAt
  rw [State.modDistrict_modDistrict, State.district_modDistrict_same]
  rfl

/-- The LATCHED decision in the rules' words, where all that the record gives up is what an opened switch does
(R22, R23, R31, R48). -/
theorem State.tripOrLatch_of_opens {s : State} {d : DistrictId}
    (opens : ∀ st, st = .tripped ∨ st = .latched → (s.district d).enter st = (s.district d).darkened st)
    (latches : (s.district d).stats.latches.count ≤ 255) (cause : Cause) :
    s.tripOrLatch d cause = s.tripsOrLatches d cause := by
  unfold State.tripOrLatch State.tripsOrLatches
  split
  case isTrue atLimit =>
    rw [if_neg (by omega), State.latch]
    congr 1
    exact State.modDistrict_congr (by rw [opens _ (.inr rfl), Counter.rise_eq_oneMore latches])
  case isFalse below =>
    rw [if_pos (by omega)]
    exact State.modDistrict_congr (by rw [District.toTripped, opens _ (.inl rfl)])

/-- The record of a failed swap gives up what an opened switch does, and no other field (R6, R31, R86). -/
theorem District.Checks.swapLost_enter {r : District} (h : r.Checks) (st : DState)
    (hst : st = .tripped ∨ st = .latched) : r.swapLost.enter st = r.swapLost.darkened st := by
  obtain ⟨⟨soak, deferral, grace, coolDown⟩, -, switch, deadTime⟩ := h
  rcases hst with rfl | rfl <;>
    simp [District.swapLost, District.enter, District.darkened, District.clearWindow, clearedWindow, DState.energised,
      DState.isSwap, DState.settles, switch, soak, deferral, grace, coolDown, deadTime]

/-- The record of a district whose swap from polarity `q` has failed, in the rules' words (R86). -/
def District.swapUndone (r : District) (q : Polarity) : District :=
  { r with
    lastCause := .swapFailed, polarity := q, preSwap := none, checkCount := none
    stats := { r.stats with swapFails := r.stats.swapFails.oneMore, trips := r.stats.trips.oneMore } }

/-- A swap has failed at its district, before a waiting copy is made, in the rules' words (R86). -/
def State.swapUndoneAt (s : State) (d : DistrictId) (q : Polarity) (test figure : Nat) : State :=
  (((s.modDistrict d (fun r => r.swapUndone q)).postDistrict .swapFailed d (6 + 16 * test) figure).partnerGraceOver
    d).tripsOrLatches d .swapFailed

/-- A swap fails as the rules say, and a waiting copy is made after it (R86, R89, R150). -/
theorem State.swapFail_settles {s : State} {d : DistrictId} {q : Polarity} (lawful : (s.district d).Lawful)
    (check : (s.district d).state = .swapCheck) (old : (s.district d).preSwap = some q) (test figure : Nat) :
    (s.swapUndoneAt d q test figure).DistrictSettles d (s.swapFail d test figure) := by
  obtain ⟨trips, -, -, -, latches, -, swapFails⟩ := id lawful.stable.stats
  have lost : (s.district d).swapLost = (s.district d).swapUndone q := by
    rw [District.swapLost, District.swapUndone, old, Counter.rise_eq_oneMore trips, Counter.rise_eq_oneMore swapFails]
    rfl
  have record : ((((s.modDistrict d District.swapLost).postDistrict .swapFailed d (Cause.swapFailed.code + 16 * test)
      figure).endGrace d).district d) = (s.district d).swapLost := by
    rw [State.endGrace_district, State.postDistrict_district, State.district_modDistrict_same]
  have decided : s.swapUndoneAt d q test figure =
      (((s.modDistrict d District.swapLost).postDistrict .swapFailed d (Cause.swapFailed.code + 16 * test)
        figure).endGrace d).tripOrLatch d .swapFailed := by
    rw [State.tripOrLatch_of_opens (by rw [record]; exact (lawful.checks check).swapLost_enter)
      (by rw [record]; exact latches), State.endGrace_eq, State.modDistrict_congr (g' := fun r => r.swapUndone q) lost]
    rfl
  have fails : s.swapFail d test figure = (s.swapUndoneAt d q test figure).deferredCopy d := by rw [decided]; rfl
  rw [fails]
  refine State.deferredCopy_settles ?_
  rw [decided, State.swapFail_record]
  exact District.swapLost_lawful lawful (by simp [check]) _ _

/-- A record in SWAP-CHECK is lawful at any check count. -/
theorem District.Lawful.counts {r : District} (h : r.Lawful) (hs : r.state = .swapCheck) (n : Nat) :
    ({ r with checkCount := some n } : District).Lawful :=
  h.of_same_state ⟨h.stable.window, h.stable.suspect, h.stable.stats, h.stable.acct⟩
    ⟨rfl, rfl, .inl rfl, rfl, rfl, (h.checkCount_iff.2 hs).symm⟩ h.live_of_deferral h.live_of_grace
    h.tripped_of_coolDown h.settles_of_settle h.swapping_of_deadTime

/-- Settles O27: the swap check on the sample just recorded, and its two ends. -/
theorem aSwapCheckSucceedsOrFails : Obligations.ASwapCheckSucceedsOrFails := by
  refine ⟨rfl, fun d x n q s reaches check count old _ => ?_⟩
  obtain ⟨lawful, check', ran⟩ := exec_sampleArrival_checks reaches check
  have record : (s.recorded d x).district d = (s.district d).sampled (s.dset d) x := by simp
  have average := s.recorded_average d x
  have count' : ((s.recorded d x).district d).checkCount = some n := by rw [record]; exact count
  have old' : ((s.recorded d x).district d).preSwap = some q := by rw [record]; exact old
  have quiet : ¬s.MeetsHard d x → ¬s.MeetsSlow d x → _ := fun hard slow =>
    State.evaluateCheck_of_quiet (s := s.recorded d x) (d := d) (x := x) (by simpa using hard)
      (by rw [average]; simpa using slow) count'
  rw [ran]
  refine ⟨fun hard slow goesOn => ?_, fun hard slow last => ?_, fun test figure met => ?_⟩
  · rw [quiet hard slow, if_neg (by simpa using goesOn)]
  · have won := State.swapSuccess_settles
      (s := (s.recorded d x).modDistrict d (fun r => { r with checkCount := some (n + 1) })) (d := d)
      (by simpa using lawful.counts check' (n + 1)) (by simpa using check')
    rw [State.swapWonAt_counted, State.swapWonAt, average, record] at won
    exact ⟨_, won, by rw [quiet hard slow, if_pos (by simpa using last)]⟩
  · refine ⟨_, State.swapFail_settles lawful check' old' test figure, ?_⟩
    rw [State.evaluateCheck_of_met]
    rw [average]
    simpa using met

end Sys2Proof.Machine
end

section
/-! # CYCLE-FEED: a walk counter out of its range refutes O36 (R116, R139, R141)

The statement asks for lawful district records and a lawful queue. R141's range of the walk counters is a law of the
feed records (`Feed.Lawful`), which it does not ask for: above 255 the model's counter goes on counting, where
`State.walkOver` has it roll over. -/

namespace Sys2Proof.Machine

/-- Feed 0 is UP, all its districts are OFF, and its chain begins at an empty entry; the counter of ended walks is out
of its range. -/
def overcountedUp : State :=
  { State.reset with
    activeImage := defaultImage.withFeed 0 { defaultFeed with chainHead := some 0 } }.modFeed 0 (fun x =>
      { x with state := .up, accepted := .healthy, debounce := none, ended := { count := 300, rolled := false } })

/-- CYCLE_FEED of feed 0 as the part does it: the walk ends with LINK-ERROR and its counter goes on from 300. -/
theorem overcountedUp_counts_on {t : State} {reply : Reply}
    (h : exec (.cycleFeed .b (byteOf 0)) overcountedUp = .next (t.respond .b 0x36 reply)) :
    (t.feed 0).ended = { count := 301, rolled := false } := by
  have served : exec (.cycleFeed .b (byteOf 0)) overcountedUp =
      .next (overcountedUp.serve (.cycleFeed .b (byteOf 0)) (feedCommand (byteOf 0) (cycleRule .b))) := rfl
  rw [served, Host.Outcome.next.injEq] at h
  have counted : ((overcountedUp.serve (.cycleFeed .b (byteOf 0)) (feedCommand (byteOf 0) (cycleRule .b))).feed
      0).ended = { count := 301, rolled := false } := by decide +kernel
  rwa [h, State.respond_feed] at counted

/-- Refutes O36: `overcountedUp` has lawful district records and an empty queue, and the walk that CYCLE_FEED starts on
its feed 0 ends with LINK-ERROR at its first entry, after which the counter of ended walks stands at 301 and not at
0. -/
theorem not_cycleFeedDarkensAndWalks : ¬ Obligations.CycleFeedDarkensAndWalks := by
  intro h
  obtain ⟨-, accepted⟩ := h .b 0 overcountedUp (by decide +kernel)
  obtain ⟨w, settled, t, ran, visits, -⟩ := accepted (by decide +kernel) (by decide +kernel) (by decide +kernel)
    (by decide +kernel) [] (by decide +kernel) _ rfl
  obtain rfl : w = _ := settled
  obtain ⟨fails, -⟩ := visits (.entry 0) (.inl ⟨0, by decide +kernel, rfl⟩) 0
  have ended := fails ⟨0, rfl, .inr (.inl (by decide +kernel))⟩ [] [] (State.grantsAre_nil (by decide +kernel))
  have counted := overcountedUp_counts_on ran
  rw [ended] at counted
  exact absurd counted (by decide +kernel)

end Sys2Proof.Machine
end

section
/-! # Feeds, darkness and waiting copies: what a quiet change keeps (R97, R105, R115, R150, R154) -/

namespace Sys2Proof.Machine

/-! ## The laws, district by district and feed by feed -/

/-- A feed record without its queue, pool, slots, edges and waiting copy: the part that the feed laws speak of. -/
def Feed.core (x : Feed) : Feed :=
  { x with queue := [], pool := 0, slots := 0, applyDeferred := false, implicated := [], fell := false, rose := false }

theorem Feed.lawful_of_core {x y : Feed} (h : y.core = x.core) (hx : x.Lawful) : y.Lawful := by
  have law : y.core.Lawful := h ▸ hx
  exact law

theorem Feed.state_of_core {x y : Feed} (h : y.core = x.core) : y.state = x.state :=
  show y.core.state = x.core.state by rw [h]

/-- The dark law at district `d` (R105). -/
def State.DarkAt (s : State) (d : DistrictId) : Prop :=
  ((s.feed (s.feedOfDistrict d)).state = .down → (s.district d).state.darkens = false) ∧
    ((s.feed (s.feedOfDistrict d)).state = .up → (s.district d).state ≠ .dark)

theorem DState.darkens_eq_false_iff (st : DState) :
    st.darkens = false ↔ st = .off ∨ st = .dark ∨ st = .latched := by
  cases st <;> simp [DState.darkens]

theorem State.darkLaw_iff (s : State) : s.DarkLaw ↔ ∀ d, s.DarkAt d := by
  simp only [State.DarkLaw, State.DarkAt, DState.darkens_eq_false_iff]

/-- The waiting law at district `d` (R150). -/
def State.WaitsAt (s : State) (d : DistrictId) : Prop :=
  (s.district d).applyDeferred = true → (s.district d).state.defersApply = true

/-- The waiting law at feed `f` (R115). -/
def State.FeedWaits (s : State) (f : FeedId) : Prop :=
  (s.feed f).applyDeferred = true → ∃ d, s.feedOfDistrict d = f ∧ (s.district d).state = .soaking

/-- The waiting law of the chain table (R154). -/
def State.ChainsWait (s : State) : Prop :=
  s.chainApplyWaiting = true → ∃ f, (s.feed f).state = .walking ∨ (s.feed f).state = .walkHalted

theorem DState.defersApply_iff (st : DState) :
    st.defersApply = true ↔ st = .soaking ∨ st = .swapping ∨ st = .swapCheck := by
  cases st <;> simp [DState.defersApply]

theorem State.waitingLaw_iff (s : State) :
    s.WaitingLaw ↔ (∀ d, s.WaitsAt d) ∧ (∀ f, s.FeedWaits f) ∧ s.ChainsWait := by
  simp only [State.WaitingLaw, State.WaitsAt, State.FeedWaits, State.ChainsWait, DState.defersApply_iff]

theorem State.WaitsAt.clear {s : State} {d : DistrictId} (h : s.WaitsAt d)
    (hd : (s.district d).state.defersApply = false) : (s.district d).applyDeferred = false :=
  Bool.eq_false_iff.2 fun k => by simp [h k] at hd

/-! ## Quiet changes -/

/-- From `s` to `t` no feed changes state, level, timer or walk, and each law that held goes on to hold; the dark law
may fail at the districts `ds`. -/
structure Calm (ds : List DistrictId) (s t : State) : Prop where
  core : ∀ f, (t.feed f).core = (s.feed f).core
  dark : ∀ {d}, d ∉ ds → s.DarkAt d → t.DarkAt d
  waits : ∀ {d}, s.WaitsAt d → t.WaitsAt d
  feedWaits : ∀ {f}, s.FeedWaits f → t.FeedWaits f
  chains : t.chainApplyWaiting = true → s.chainApplyWaiting = true

theorem Calm.state {ds : List DistrictId} {s t : State} (h : Calm ds s t) (f : FeedId) :
    (t.feed f).state = (s.feed f).state := Feed.state_of_core (h.core f)

theorem Calm.refl (ds : List DistrictId) (s : State) : Calm ds s s :=
  ⟨fun _ => rfl, fun _ => id, id, id, id⟩

theorem Calm.trans {ds : List DistrictId} {s t u : State} (h : Calm ds s t) (k : Calm ds t u) : Calm ds s u :=
  ⟨fun f => (k.core f).trans (h.core f), fun hd l => k.dark hd (h.dark hd l), fun l => k.waits (h.waits l),
    fun l => k.feedWaits (h.feedWaits l), fun l => h.chains (k.chains l)⟩

theorem Calm.mono {s t : State} (h : Calm [] s t) (ds : List DistrictId) : Calm ds s t :=
  ⟨h.core, fun _ => h.dark (by simp), h.waits, h.feedWaits, h.chains⟩

/-- The dark law holds again at a district where it may have failed. -/
theorem Calm.close {s t : State} {d : DistrictId} (h : Calm [d] s t) (hd : t.DarkAt d) : Calm [] s t :=
  ⟨h.core, fun {e} _ l => by
    by_cases he : e = d
    · exact he ▸ hd
    · exact h.dark (by simpa using he) l, h.waits, h.feedWaits, h.chains⟩

theorem Calm.foldl {α : Type} {act : State → α → State} (h : ∀ s a, Calm [] s (act s a)) (l : List α) (s : State) :
    Calm [] s (l.foldl act s) := by
  induction l generalizing s with
  | nil => exact .refl _ s
  | cons a l ih => exact (h s a).trans (ih _)

/-- States whose districts have the same states, feeds and waiting copies, and whose feeds differ in queue, pool, slots
and edges only. -/
theorem Calm.of_same {s t : State} (hs : ∀ d, (t.district d).state = (s.district d).state)
    (hw : ∀ d, (t.district d).applyDeferred = (s.district d).applyDeferred)
    (hd : ∀ d, t.feedOfDistrict d = s.feedOfDistrict d) (hf : ∀ f, (t.feed f).core = (s.feed f).core)
    (ha : ∀ f, (t.feed f).applyDeferred = true → (s.feed f).applyDeferred = true)
    (hc : t.chainApplyWaiting = true → s.chainApplyWaiting = true) : Calm [] s t := by
  refine ⟨hf, fun {d} _ l => ?_, fun {d} l => ?_, fun {f} l k => ?_, hc⟩
  · rw [State.DarkAt, hd, hs, Feed.state_of_core (hf _)]; exact l
  · rw [State.WaitsAt, hs, hw]; exact l
  · obtain ⟨d, on, soaks⟩ := l (ha f k)
    exact ⟨d, (hd d).trans on, (hs d).trans soaks⟩

/-- States with the same records and active settings. -/
theorem Calm.of_eq {s t : State} (hd : t.districts = s.districts) (hf : t.feeds = s.feeds)
    (hi : t.activeImage.districts = s.activeImage.districts)
    (hc : t.chainApplyWaiting = true → s.chainApplyWaiting = true) : Calm [] s t := by
  have feed : ∀ f, t.feed f = s.feed f := fun f => by simp only [State.feed, hf]
  exact .of_same (fun d => by simp only [State.district, hd]) (fun d => by simp only [State.district, hd])
    (fun d => by simp only [State.feedOfDistrict, State.dset, Image.district, hi]) (fun f => by rw [feed])
    (fun f => by rw [feed]; exact id) hc

theorem Calm.post (s : State) (ev : Event) : Calm [] s (s.post ev) := .of_eq rfl rfl rfl id

theorem Calm.modPort (s : State) (p : Port) (g : PortRecord → PortRecord) : Calm [] s (s.modPort p g) :=
  .of_eq rfl rfl rfl id

/-- A feed's queue, pool, slots or edges change. -/
theorem Calm.modFeed (s : State) (f : FeedId) {g : Feed → Feed}
    (h : ∀ x, (g x).core = x.core ∧ (g x).applyDeferred = x.applyDeferred := by exact fun _ => ⟨rfl, rfl⟩) :
    Calm [] s (s.modFeed f g) :=
  .of_same (fun _ => rfl) (fun _ => rfl) (fun _ => rfl)
    (fun e => by rw [State.feed_modFeed]; split <;> simp_all)
    (fun e => by rw [State.feed_modFeed]; split <;> simp_all) id

/-! ## A district that changes state -/

/-- The changes of state that keep the dark law on any feed: none, to OFF or LATCHED, and out of a state that DOWN
excludes into one that UP allows (R105). -/
def DState.Follows (st st' : DState) : Prop :=
  st' = st ∨ st' = .off ∨ st' = .latched ∨ st.darkens = true ∧ st' ≠ .dark

theorem DState.Follows.dark {st st' : DState} (h : st.Follows st') {down up : Prop}
    (l : (down → st.darkens = false) ∧ (up → st ≠ .dark)) : (down → st'.darkens = false) ∧ (up → st' ≠ .dark) := by
  rcases h with rfl | rfl | rfl | ⟨serves, lit⟩
  · exact l
  · exact ⟨fun _ => rfl, fun _ => by simp⟩
  · exact ⟨fun _ => rfl, fun _ => by simp⟩
  · exact ⟨fun k => by simp [l.1 k] at serves, fun _ => lit⟩

/-- A district's record changes: its state follows, a soak goes on, and a copy that waits has its reason. -/
theorem Calm.modDistrict {s : State} {d : DistrictId} {g : District → District}
    (hd : (s.district d).state.Follows (g (s.district d)).state)
    (hs : (s.district d).state = .soaking → (g (s.district d)).state = .soaking)
    (hw : s.WaitsAt d → (g (s.district d)).applyDeferred = true → (g (s.district d)).state.defersApply = true) :
    Calm [] s (s.modDistrict d g) := by
  refine ⟨fun _ => rfl, fun {e} _ l => ?_, fun {e} l k => ?_, fun l k => ?_, id⟩
  · rw [State.DarkAt, State.district_modDistrict]
    split
    · subst e; exact hd.dark l
    · exact l
  · rw [State.district_modDistrict] at k ⊢
    split at k
    · subst e; rw [if_pos rfl]; exact hw l k
    · rw [if_neg ‹_›]; exact l k
  · obtain ⟨e, on, soaks⟩ := l k
    refine ⟨e, on, ?_⟩
    rw [State.district_modDistrict]
    split
    · subst e; exact hs soaks
    · exact soaks

/-- A record is rewritten without a word on its state and its waiting copy. -/
theorem Calm.rewrites (s : State) (d : DistrictId) {g : District → District}
    (hs : (g (s.district d)).state = (s.district d).state := by rfl)
    (hw : (g (s.district d)).applyDeferred = (s.district d).applyDeferred := by rfl) :
    Calm [] s (s.modDistrict d g) :=
  .modDistrict (.inl hs) (by rw [hs]; exact id) (by rw [hs, hw]; exact id)

/-- A district in a state that defers no copy takes any state, the dark law given up there. -/
theorem Calm.opens {s : State} {d : DistrictId} {g : District → District}
    (free : (s.district d).state.defersApply = false)
    (hw : (g (s.district d)).applyDeferred = (s.district d).applyDeferred := by simp) :
    Calm [d] s (s.modDistrict d g) := by
  refine ⟨fun _ => rfl, fun {e} he l => ?_, fun {e} l k => ?_, fun l k => ?_, id⟩
  · rw [State.DarkAt, State.district_modDistrict_of_ne (by simpa using he)]; exact l
  · rw [State.district_modDistrict] at k ⊢
    split at k
    · subst e
      rw [hw] at k
      simp [l k] at free
    · rw [if_neg ‹_›]; exact l k
  · obtain ⟨e, on, soaks⟩ := l k
    refine ⟨e, on, ?_⟩
    rw [State.district_modDistrict_of_ne]
    · exact soaks
    · rintro rfl
      simp [soaks, DState.defersApply] at free

/-- A district leaves a state that defers no copy for one that follows it. -/
theorem Calm.moves {s : State} {d : DistrictId} {g : District → District}
    (free : (s.district d).state.defersApply = false)
    (hd : (s.district d).state.Follows (g (s.district d)).state)
    (hw : (g (s.district d)).applyDeferred = (s.district d).applyDeferred := by simp) :
    Calm [] s (s.modDistrict d g) := by
  refine .modDistrict hd (fun k => ?_) (fun l k => ?_)
  · simp [k, DState.defersApply] at free
  · rw [hw, l.clear free] at k
    simp at k

/-! ## The arbiter (R53, R55, R108, R111) -/

/-- A grant takes QUEUED districts into SOAKING (R55). -/
theorem Grants.calm {f : FeedId} {s t : State} (h : Grants f s t) : Calm [] s t := by
  have on : ∀ d, t.feedOfDistrict d = s.feedOfDistrict d := fun d => by simp [State.feedOfDistrict, h.records.dset]
  have core : ∀ g, (t.feed g).core = (s.feed g).core := fun g => by
    by_cases hg : g = f
    · subst hg; rw [h.thisFeed]; rfl
    · rw [h.otherFeeds g hg]
  have state : ∀ d, (s.district d).state.Follows (t.district d).state := fun d => by
    rcases h.districts d with same | ⟨queued, -, granted⟩
    · exact .inl (by rw [same])
    · exact .inr (.inr (.inr ⟨by rw [queued]; rfl, by rw [granted]; simp⟩))
  refine ⟨core, fun {d} _ l => ?_, fun {d} l k => ?_, fun {g} l k => ?_, by rw [h.records.chainApplyWaiting]; exact id⟩
  · rw [State.DarkAt, on, h.state]
    exact (state d).dark l
  · rcases h.districts d with same | ⟨-, -, granted⟩
    · rw [same] at k ⊢; exact l k
    · rw [granted]; rfl
  · have waits : (s.feed g).applyDeferred = true := by
      by_cases hg : g = f
      · subst hg; rw [h.thisFeed] at k; exact k
      · rwa [h.otherFeeds g hg] at k
    obtain ⟨d, hd, soaks⟩ := l waits
    exact ⟨d, (on d).trans hd, by rw [h.bystander (by simp [soaks])]; exact soaks⟩

theorem Calm.runGrantRule (s : State) (f : FeedId) : Calm [] s (s.runGrantRule f) := (s.runGrantRule_grants f).calm

/-- A TRIPPED district joins its feed's queue (R49, R53). -/
theorem Calm.join {s : State} {d : DistrictId} (f : FeedId) (free : (s.district d).state.defersApply = false)
    (hd : (s.district d).state.darkens = true) : Calm [] s (s.join f d) :=
  (Calm.moves free (.inr (.inr (.inr ⟨hd, by simp⟩)))).trans ((Calm.modFeed _ f).trans (.runGrantRule _ f))

theorem Calm.leaveFor {s : State} {d : DistrictId} (f : FeedId) (st : DState)
    (free : (s.district d).state.defersApply = false) : Calm [d] s (s.leaveFor f d st) := by
  have entered : Calm [d] s (s.modDistrict d (fun r => r.enter st)) := .opens free
  unfold State.leaveFor
  dsimp only
  split
  · exact entered.trans (((Calm.modFeed _ f).trans (.runGrantRule _ f)).mono _)
  · exact entered

/-- A district that returns to service is QUEUED on an UP feed and DARK elsewhere: the dark law holds there (R105). -/
theorem State.returnToService_darkAt (s : State) (d : DistrictId) : (s.returnToService d).DarkAt d := by
  unfold State.returnToService
  split
  case isTrue up =>
    have joined : (s.enqueue (s.feedOfDistrict d) d).DarkAt d := by
      have state : ((s.enqueue (s.feedOfDistrict d) d).feed (s.feedOfDistrict d)).state = .up := by
        simpa [State.enqueue] using up
      have on : (s.enqueue (s.feedOfDistrict d) d).feedOfDistrict d = s.feedOfDistrict d := rfl
      rw [State.DarkAt, on, state]
      exact ⟨by simp, fun _ => by simp [State.enqueue]⟩
    exact (Calm.runGrantRule _ _).dark (by simp) joined
  case isFalse notUp =>
    exact ⟨fun _ => by simp [DState.darkens], fun up => absurd up notUp⟩

theorem Calm.returnToService {s : State} {d : DistrictId} (free : (s.district d).state.defersApply = false) :
    Calm [] s (s.returnToService d) := by
  refine Calm.close (d := d) ?_ (s.returnToService_darkAt d)
  unfold State.returnToService
  split
  · exact (Calm.opens (g := fun r => r.enter .queued) free).trans
      (((Calm.modFeed _ _).trans (.runGrantRule _ _)).mono _)
  · exact .opens free

/-! ## Grace (R85 to R87) -/

theorem Calm.endGrace (s : State) (v : DistrictId) : Calm [] s (s.endGrace v) := by
  unfold State.endGrace
  split
  · exact .refl _ s
  · exact .rewrites s _

theorem Calm.abandonSwap (s : State) (d : DistrictId) : Calm [] s (s.abandonSwap d) := by
  unfold State.abandonSwap
  split
  · exact .endGrace s d
  · exact .refl _ s

/-! ## Copies (R115, R149 to R153) -/

/-- A feed's set is copied, and no copy waits there any more (R115). -/
theorem Calm.installFeed (s : State) (f : FeedId) : Calm [] s (s.installFeed f) := by
  have feed : ∀ g, (s.installFeed f).feed g = if g = f then { s.feed f with applyDeferred := false } else s.feed g :=
    fun g => State.feed_modFeed _ f g _
  refine .of_same (fun _ => rfl) (fun _ => rfl) (fun _ => rfl) (fun g => ?_) (fun g => ?_) id
  · rw [feed]; split
    · subst g; rfl
    · rfl
  · rw [feed]; split <;> simp

theorem Calm.copyFeed (s : State) (f : FeedId) : Calm [] s (s.copyFeed f) :=
  (Calm.installFeed s f).trans (.runGrantRule _ f)

theorem Calm.copyWaitingFeed (s : State) (f : FeedId) : Calm [] s (s.copyWaitingFeed f) := by
  unfold State.copyWaitingFeed
  split
  · exact (Calm.installFeed s f).trans ((Calm.post _ _).trans (.runGrantRule _ f))
  · exact .refl _ s

/-- Once the waiting copy of feed `f` has had its turn, the waiting law holds there, whatever held before (R115). -/
theorem State.copyWaitingFeed_feedWaits (s : State) (f : FeedId) : (s.copyWaitingFeed f).FeedWaits f := by
  unfold State.copyWaitingFeed
  split
  · have copied : (s.installFeed f).FeedWaits f := fun k => by simp [State.installFeed] at k
    exact ((Calm.post _ _).trans (.runGrantRule _ f)).feedWaits copied
  case isFalse busy =>
    intro waits
    rw [waits, Bool.true_and, List.isEmpty_iff] at busy
    obtain ⟨d, hd⟩ := List.exists_mem_of_ne_nil _ busy
    exact ⟨d, (s.mem_inState f .soaking d).1 hd⟩

theorem Calm.correct (s : State) (named : Half) (o : Origin) (d : DistrictId) : Calm [] s (s.correct named o d) := by
  obtain ⟨districts, feeds, image, -⟩ := s.correct_frame named o d
  refine .of_eq districts feeds (by rw [image]) ?_
  unfold State.correct
  dsimp only
  split <;> exact id

/-- A copied set may move its district, which defers no copy, to another feed (R151). -/
theorem Calm.setCopied {s : State} {d : DistrictId} (free : (s.district d).state.defersApply = false) :
    Calm [d] s (s.setCopied d) := by
  have on : ∀ e, e ≠ d → (s.setCopied d).feedOfDistrict e = s.feedOfDistrict e := fun e he => by
    simp [State.feedOfDistrict, State.setCopied_dset, he]
  refine ⟨fun _ => rfl, fun {e} he l => ?_, fun l => by simpa [State.WaitsAt] using l, fun l k => ?_, id⟩
  · rw [State.DarkAt, on e (by simpa using he), State.setCopied_state]; exact l
  · rw [State.setCopied_feed] at k
    obtain ⟨e, he, soaks⟩ := l k
    have ne : e ≠ d := by
      rintro rfl
      simp [soaks, DState.defersApply] at free
    exact ⟨e, (on e ne).trans he, (s.setCopied_state d e).trans soaks⟩

/-- A copied set that names the same feed moves nothing. -/
theorem Calm.setCopied_of_same {s : State} {d : DistrictId}
    (same : ((s.setCopied d).dset d).feed = (s.dset d).feed) : Calm [] s (s.setCopied d) := by
  refine .of_same (s.setCopied_state d) (by simp) (fun e => ?_) (fun _ => rfl)
    (fun f => by rw [State.setCopied_feed]; exact id) id
  by_cases he : e = d
  · subst he; exact same
  · simp [State.feedOfDistrict, State.setCopied_dset, he]

/-- A changed feed or kind sends a district in service to OFF, or back to service on its feed (R152). -/
theorem Calm.changeFeedOrKind {s : State} {d : DistrictId} (old : FeedId)
    (free : (s.district d).state.defersApply = false) : Calm [d] s (s.changeFeedOrKind old d) := by
  have straight : Calm [d] s (s.straightened d) := .opens free (by split <;> rfl)
  have free' : ((s.straightened d).district d).state.defersApply = false := by
    rw [State.straightened_state]; exact free
  rcases DState.of_not_defersApply free with off | latched | service
  · rw [State.changeFeedOrKind_of_off old off]
    exact straight
  · rw [State.changeFeedOrKind_of_latched old latched]
    split
    · exact straight.trans (.opens free')
    · exact straight
  · rw [State.changeFeedOrKind_of_service old service]
    split
    · exact straight.trans (.leaveFor _ _ free')
    · refine straight.trans ((Calm.leaveFor _ _ free').trans ((Calm.returnToService ?_).mono _))
      rw [State.leaveFor_district _ _ _ (by simp), District.enter_state]
      rfl

/-- After a change of feed or kind the dark law holds at the district: it is OFF or LATCHED, or has returned to service
(R105, R152). -/
theorem State.changeFeedOrKind_darkAt {s : State} {d : DistrictId} (old : FeedId)
    (free : (s.district d).state.defersApply = false) : (s.changeFeedOrKind old d).DarkAt d := by
  have rests : ∀ {t : State}, (t.district d).state = .off ∨ (t.district d).state = .latched → t.DarkAt d :=
    fun h => ⟨fun _ => by rcases h with k | k <;> rw [k] <;> rfl, fun _ => by rcases h with k | k <;> simp [k]⟩
  have straight := s.straightened_state d
  rcases DState.of_not_defersApply free with off | latched | service
  · rw [State.changeFeedOrKind_of_off old off]
    exact rests (.inl (straight.trans off))
  · rw [State.changeFeedOrKind_of_latched old latched]
    split
    · exact rests (.inl (by simp))
    · exact rests (.inr (straight.trans latched))
  · rw [State.changeFeedOrKind_of_service old service]
    split
    · exact rests (.inl (by rw [State.leaveFor_district _ _ _ (by simp), District.enter_state]))
    · exact State.returnToService_darkAt _ d

theorem Calm.copyDistrict {s : State} {d : DistrictId} (free : (s.district d).state.defersApply = false) :
    Calm [] s (s.copyDistrict d) := by
  have free' : ((s.setCopied d).district d).state.defersApply = false := by rw [State.setCopied_state]; exact free
  unfold State.copyDistrict
  rw [State.installDistrict_eq_setCopied]
  dsimp only
  split
  case isTrue same =>
    have copied := Calm.setCopied_of_same same.1
    split
    · exact copied.trans (.runGrantRule _ _)
    · exact copied
  case isFalse =>
    exact ((Calm.setCopied free).trans (.changeFeedOrKind _ free')).close (State.changeFeedOrKind_darkAt _ free')

/-- The turn of a district's waiting copy (R150): where none can be made the waiting law holds as it stands; else the
copy is made from a state in which none waits any more. -/
theorem State.deferredCopy_cases (s : State) (d : DistrictId) :
    s.deferredCopy d = s ∧ s.WaitsAt d ∨
      ∃ t, s.deferredCopy d = t.copyDistrict d ∧ Calm [] s t ∧ (t.district d).state.defersApply = false ∧
        (t.district d).applyDeferred = false := by
  by_cases hd : (s.district d).applyDeferred = true ∧ (s.district d).state.defersApply = false
  · obtain ⟨waits, free⟩ := hd
    have cleared : ∀ u : State, Calm [] u (u.modDistrict d (fun r => { r with applyDeferred := false })) := fun u =>
      .modDistrict (.inl rfl) id (fun _ k => by simp at k)
    refine .inr ?_
    unfold State.deferredCopy
    rw [waits, free]
    exact ⟨_, rfl, (Calm.correct s 0 .device d).trans ((cleared _).trans (.post _ _)), by simpa using free, by simp⟩
  · refine .inl ⟨?_, fun k => by simpa [k] using hd⟩
    unfold State.deferredCopy
    rw [if_neg (by simpa using hd)]

theorem Calm.deferredCopy (s : State) (d : DistrictId) : Calm [] s (s.deferredCopy d) := by
  rcases s.deferredCopy_cases d with ⟨none, -⟩ | ⟨t, made, calm, free, -⟩
  · rw [none]; exact .refl _ s
  · rw [made]; exact calm.trans (.copyDistrict free)

/-- Once the waiting copy of district `d` has had its turn, the waiting law holds there, whatever held before
(R150). -/
theorem State.deferredCopy_waitsAt (s : State) (d : DistrictId) : (s.deferredCopy d).WaitsAt d := by
  rcases s.deferredCopy_cases d with ⟨none, waits⟩ | ⟨t, made, -, free, clear⟩
  · rw [none]; exact waits
  · rw [made]; exact (Calm.copyDistrict free).waits fun k => by simp [clear] at k

/-- The districts of a list have had their turn, whatever waited there before. -/
theorem State.deferredCopies_waitsAt {ds : List DistrictId} {d : DistrictId} (hd : d ∈ ds) (s : State) :
    (ds.foldl State.deferredCopy s).WaitsAt d := by
  induction ds generalizing s with
  | nil => simp at hd
  | cons e ds ih =>
    rcases List.mem_cons.1 hd with rfl | hd
    · exact (Calm.foldl Calm.deferredCopy ds _).waits (s.deferredCopy_waitsAt d)
    · exact ih hd _

end Sys2Proof.Machine
end

section
/-! # Feeds, darkness and waiting copies through a walk (chapter 06) -/

namespace Sys2Proof.Machine

/-! ## What a walk does to districts and feeds -/

/-- What a walk may do to a district, `mine` saying that the district is on its feed: a QUEUED one is granted, a DARK
one of its own is queued, admitted or latched (R55, R75, R139). -/
def DState.Served (mine : Prop) (st st' : DState) : Prop :=
  st' = st ∨ st = .queued ∧ st' = .soaking ∨
    mine ∧ st = .dark ∧ (st' = .queued ∨ st' = .soaking ∨ st' = .latched)

theorem DState.Served.trans {mine : Prop} {a b c : DState} (h : a.Served mine b) (k : b.Served mine c) :
    a.Served mine c := by
  rcases h with rfl | ⟨rfl, rfl⟩ | ⟨m, rfl, rfl | rfl | rfl⟩
  · exact k
  all_goals rcases k with rfl | ⟨k, rfl⟩ | ⟨-, k, -⟩ <;> simp_all [DState.Served]

/-- A district off the walk's feed, or one that is not DARK, keeps its state or is granted. -/
theorem DState.Served.follows {mine : Prop} {st st' : DState} (h : st.Served mine st') (hm : ¬mine ∨ st ≠ .dark) :
    st.Follows st' := by
  rcases h with rfl | ⟨rfl, rfl⟩ | ⟨m, dark, -⟩
  · exact .inl rfl
  · exact .inr (.inr (.inr ⟨rfl, by simp⟩))
  · exact absurd m (hm.resolve_right (by simp [dark]))

/-- From `s` to `t` a walk of feed `f` has gone on: what it may do to districts, and that it touches no waiting copy. -/
structure Proceeds (f : FeedId) (s t : State) : Prop where
  walks : Walks f s t
  deferred : (t.feed f).applyDeferred = (s.feed f).applyDeferred
  flags : ∀ d, (t.district d).applyDeferred = (s.district d).applyDeferred
  states : ∀ d, (s.district d).state.Served (s.feedOfDistrict d = f) (t.district d).state

theorem Proceeds.refl (f : FeedId) (s : State) : Proceeds f s s := ⟨.refl f s, rfl, fun _ => rfl, fun _ => .inl rfl⟩

theorem Proceeds.trans {f : FeedId} {s t u : State} (h : Proceeds f s t) (k : Proceeds f t u) : Proceeds f s u where
  walks := h.walks.trans k.walks
  deferred := k.deferred.trans h.deferred
  flags d := (k.flags d).trans (h.flags d)
  states d := (h.states d).trans (by simpa [h.walks.feedOfDistrict] using k.states d)

theorem Proceeds.modFeed (s : State) (f : FeedId) {g : Feed → Feed}
    (h : (g (s.feed f)).applyDeferred = (s.feed f).applyDeferred := by rfl) : Proceeds f s (s.modFeed f g) :=
  ⟨.modFeed s f g, by simpa using h, fun _ => rfl, fun _ => .inl rfl⟩

theorem Proceeds.post (f : FeedId) (s : State) (ev : Event) : Proceeds f s (s.post ev) :=
  ⟨.post f s ev, rfl, fun _ => rfl, fun _ => .inl rfl⟩

/-- A DARK district of the feed is queued, admitted or latched. -/
theorem Proceeds.modDistrict {f : FeedId} {s : State} {d : DistrictId} {g : District → District}
    (hf : s.feedOfDistrict d = f) (dark : (s.district d).state = .dark)
    (hs : (g (s.district d)).state = .queued ∨ (g (s.district d)).state = .soaking ∨
      (g (s.district d)).state = .latched)
    (hw : (g (s.district d)).applyDeferred = (s.district d).applyDeferred) : Proceeds f s (s.modDistrict d g) where
  walks := .modDistrict f s d g (.inr dark)
  deferred := rfl
  flags e := by
    rw [State.district_modDistrict]
    split
    · subst e; exact hw
    · rfl
  states e := by
    rw [State.district_modDistrict]
    split
    · subst e; exact .inr (.inr ⟨hf, dark, hs⟩)
    · exact .inl rfl

theorem Proceeds.runGrantRule (s : State) (f : FeedId) : Proceeds f s (s.runGrantRule f) := by
  have grants := s.runGrantRule_grants f
  refine ⟨grants.walks, by rw [grants.thisFeed], fun d => ?_, fun d => ?_⟩ <;>
    rcases grants.districts d with same | ⟨queued, -, granted⟩
  · rw [same]
  · rw [granted]; simp [District.granted, District.startSoak]
  · exact .inl (by rw [same])
  · exact .inr (.inl ⟨queued, by rw [granted]; rfl⟩)

theorem Proceeds.copyWaitingChains (f : FeedId) (s : State) : Proceeds f s s.copyWaitingChains := by
  refine ⟨.copyWaitingChains f s, ?_, fun d => ?_, fun d => .inl ?_⟩ <;>
    (unfold State.copyWaitingChains; split <;> rfl)

/-! ### The DARK districts at a walk's end (R139) -/

/-- What the end of a walk makes of a DARK district: QUEUED or LATCHED (R139 step 2). -/
theorem State.settleDark_state (f : FeedId) (s : State) (d : DistrictId) :
    ((s.settleDark f d).district d).state = .queued ∨ ((s.settleDark f d).district d).state = .latched := by
  unfold State.settleDark
  split
  · exact .inr (by simp [State.latch_district])
  · exact .inl (by simp [State.enqueue])

theorem State.settleDark_core (f : FeedId) (s : State) (d : DistrictId) :
    ((s.settleDark f d).feed f).core = (s.feed f).core ∧
      ((s.settleDark f d).feed f).applyDeferred = (s.feed f).applyDeferred := by
  unfold State.settleDark
  split
  · exact ⟨rfl, rfl⟩
  · simp [State.enqueue, Feed.core]

theorem Proceeds.settleDark {f : FeedId} {s : State} {d : DistrictId} (hf : s.feedOfDistrict d = f)
    (dark : (s.district d).state = .dark) : Proceeds f s (s.settleDark f d) where
  walks := .settleDark f s d (.inr dark)
  deferred := (s.settleDark_core f d).2
  flags e := by
    unfold State.settleDark
    split
    · rw [State.latch_district]
      split
      · subst e; simp
      · rw [State.district_modDistrict_of_ne ‹_›]
    · simp only [State.enqueue, State.modFeed_district, State.district_modDistrict]
      split
      · subst e; simp
      · rfl
  states e := by
    by_cases he : e = d
    · subst he
      exact .inr (.inr ⟨hf, dark, (s.settleDark_state f e).imp_right .inr⟩)
    · exact .inl (by rw [s.settleDark_other f he])

/-- The DARK districts of a feed settle one after the other; none of them is DARK any more (R139 step 2). -/
theorem Proceeds.settleAll (f : FeedId) (ds : List DistrictId) (s : State) (hn : ds.Nodup)
    (h : ∀ d ∈ ds, s.feedOfDistrict d = f ∧ (s.district d).state = .dark) :
    Proceeds f s (ds.foldl (State.settleDark f) s) ∧
      ((ds.foldl (State.settleDark f) s).feed f).core = (s.feed f).core ∧
      ∀ d, d ∈ ds ∨ (s.district d).state ≠ .dark → ((ds.foldl (State.settleDark f) s).district d).state ≠ .dark := by
  induction ds generalizing s with
  | nil => exact ⟨.refl f s, rfl, by simp⟩
  | cons d ds ih =>
    rw [List.nodup_cons] at hn
    obtain ⟨hf, dark⟩ := h d (by simp)
    have one := Proceeds.settleDark hf dark
    have lit : ((s.settleDark f d).district d).state ≠ .dark := by
      rcases s.settleDark_state f d with k | k <;> simp [k]
    obtain ⟨rest, core, none⟩ := ih (s.settleDark f d) hn.2 fun e he => by
      rw [s.settleDark_other f (by rintro rfl; exact hn.1 he), one.walks.feedOfDistrict]
      exact h e (by simp [he])
    refine ⟨one.trans rest, core.trans (s.settleDark_core f d).1, fun e he => none e ?_⟩
    by_cases hed : e = d
    · exact .inr (hed ▸ lit)
    · rw [s.settleDark_other f hed]
      exact he.imp_left fun k => (List.mem_cons.1 k).resolve_left hed

/-! ## A walk under way -/

/-- A feed whose line is accepted as HEALTHY, with its counters in range: a lawful record but for the state of feed and
walk (R97, R98, R122, R141). -/
structure Feed.OnLine (x : Feed) : Prop where
  accepted : x.accepted = .healthy
  raw : x.raw = .healthy
  debounce : x.debounce = none
  completed : x.completed.count ≤ 255
  ended : x.ended.count ≤ 255
  aborted : x.abortedWalks.count ≤ 255
  admitted : x.walk.admitted ≤ 255
  passed : x.walk.passed ≤ 255
  failed : x.walk.failed ≤ 255

theorem Feed.Lawful.onLine {x : Feed} (h : x.Lawful) (hx : x.state ≠ .down) : x.OnLine := by
  obtain ⟨down, raw, debounce, ⟨-, -, -, -, -, admitted, passed, failed⟩, completed, ended, aborted⟩ := h
  have accepted : x.accepted = .healthy := by
    cases k : x.accepted
    · exact absurd (down.2 k) hx
    · rfl
  refine ⟨accepted, ?_, ?_, completed, ended, aborted, admitted, passed, failed⟩
  · cases k : x.raw
    · simp [raw k] at accepted
    · rfl
  · rw [← Option.not_isSome_iff_eq_none, debounce, accepted]
    simp

theorem Feed.OnLine.lawful {x : Feed} (h : x.OnLine) (hx : x.state ≠ .down)
    (idle : x.walk.phase = .idle ↔ x.state = .up) (kind : x.walk.kind = .none ↔ x.walk.phase = .idle)
    (pausing : x.walk.phase = .pausing → x.state = .walking) (held : x.walk.phase = .entryHeld → x.state = .walkHalted)
    (pause : x.walk.pause.isSome = true → x.walk.phase = .pausing) : x.Lawful := by
  refine ⟨?_, ?_, ?_, ⟨?_, kind, pausing, held, pause, h.admitted, h.passed, h.failed⟩, h.completed, h.ended, h.aborted⟩
  · simp [hx, h.accepted]
  · simp [h.raw]
  · simp [h.debounce, h.accepted]
  · simp [hx, idle]

/-- A record with the same line and figures. -/
theorem Feed.OnLine.of_same {x y : Feed} (h : x.OnLine)
    (line : y.accepted = x.accepted ∧ y.raw = x.raw ∧ y.debounce = x.debounce := by exact ⟨rfl, rfl, rfl⟩)
    (counts : y.completed = x.completed ∧ y.ended = x.ended ∧ y.abortedWalks = x.abortedWalks := by
      exact ⟨rfl, rfl, rfl⟩)
    (figures : y.walk.admitted = x.walk.admitted ∧ y.walk.passed = x.walk.passed ∧ y.walk.failed = x.walk.failed := by
      exact ⟨rfl, rfl, rfl⟩) : y.OnLine := by
  obtain ⟨accepted, raw, debounce⟩ := line
  obtain ⟨completed, ended, aborted⟩ := counts
  obtain ⟨admitted, passed, failed⟩ := figures
  refine ⟨?_, ?_, ?_, ?_, ?_, ?_, ?_, ?_, ?_⟩
  · rw [accepted, h.accepted]
  · rw [raw, h.raw]
  · rw [debounce, h.debounce]
  · rw [completed]; exact h.completed
  · rw [ended]; exact h.ended
  · rw [aborted]; exact h.aborted
  · rw [admitted]; exact h.admitted
  · rw [passed]; exact h.passed
  · rw [failed]; exact h.failed

theorem Feed.OnLine.of_core {x y : Feed} (h : y.core = x.core) (hx : x.OnLine) : y.OnLine := by
  have line : x.core.OnLine := hx.of_same
  rw [← h] at line
  exact line.of_same

theorem saturate_le (n : Nat) : saturate n ≤ 255 := Nat.min_le_left _ _

/-- In one event that began in `s₀`, a walk of feed `f` has come to `s`, and the feed's line is in order. -/
structure OnWay (f : FeedId) (s₀ s : State) : Prop where
  proceeds : Proceeds f s₀ s
  line : (s.feed f).OnLine

/-- The walk may visit an entry or end: the feed is WALKING, the walk has its kind, and no pause runs. -/
structure Ready (f : FeedId) (s₀ s : State) : Prop extends OnWay f s₀ s where
  walking : (s.feed f).state = .walking
  kind : (s.walk f).kind ≠ .none
  pause : (s.walk f).pause = none

/-- The walk works an entry, pauses or holds one: its feed is lawful, and WALKING or WALK-HALTED. -/
structure Underway (f : FeedId) (s₀ s : State) : Prop extends OnWay f s₀ s where
  lawful : (s.feed f).Lawful
  walked : (s.feed f).state = .walking ∨ (s.feed f).state = .walkHalted

/-- The event is over for the walk of feed `f`: the feed is lawful and not DOWN, no district of an UP feed is DARK, and
a chain table waits only for a walk. -/
structure Rests (f : FeedId) (s₀ t : State) : Prop where
  proceeds : Proceeds f s₀ t
  lawful : (t.feed f).Lawful
  notDown : (t.feed f).state ≠ .down
  lit : (t.feed f).state = .up → ∀ d, t.feedOfDistrict d = f → (t.district d).state ≠ .dark
  chains : t.ChainsWait

section
variable {f : FeedId} {s₀ s : State}

theorem OnWay.post (h : OnWay f s₀ s) (ev : Event) : OnWay f s₀ (s.post ev) :=
  ⟨h.proceeds.trans (.post f s ev), h.line⟩

theorem OnWay.modFeed (h : OnWay f s₀ s) {g : Feed → Feed} (hl : (g (s.feed f)).OnLine)
    (hw : (g (s.feed f)).applyDeferred = (s.feed f).applyDeferred := by rfl) : OnWay f s₀ (s.modFeed f g) :=
  ⟨h.proceeds.trans (.modFeed s f hw), by simpa using hl⟩

/-- The walk context changes, but not its figures. -/
theorem OnWay.modWalk (h : OnWay f s₀ s) {g : Walk → Walk}
    (figures : (g (s.walk f)).admitted = (s.walk f).admitted ∧ (g (s.walk f)).passed = (s.walk f).passed ∧
      (g (s.walk f)).failed = (s.walk f).failed := by exact ⟨rfl, rfl, rfl⟩) : OnWay f s₀ (s.modWalk f g) :=
  h.modFeed (h.line.of_same (y := { s.feed f with walk := g (s.walk f) }) ⟨rfl, rfl, rfl⟩ ⟨rfl, rfl, rfl⟩ figures)

theorem Underway.post (h : Underway f s₀ s) (ev : Event) : Underway f s₀ (s.post ev) :=
  ⟨h.toOnWay.post ev, h.lawful, h.walked⟩

/-- The feed of a walk under way changes, but not its state, nor phase, kind and pause of the walk. -/
theorem Underway.modFeed (h : Underway f s₀ s) {g : Feed → Feed} (hl : (g (s.feed f)).OnLine)
    (hw : (g (s.feed f)).applyDeferred = (s.feed f).applyDeferred := by rfl)
    (state : (g (s.feed f)).state = (s.feed f).state := by rfl)
    (walk : (g (s.feed f)).walk.phase = (s.walk f).phase ∧ (g (s.feed f)).walk.kind = (s.walk f).kind ∧
      (g (s.feed f)).walk.pause = (s.walk f).pause := by exact ⟨rfl, rfl, rfl⟩) : Underway f s₀ (s.modFeed f g) := by
  obtain ⟨down, -, -, ⟨idle, kind, pausing, held, pause, -⟩, -⟩ := h.lawful
  obtain ⟨phases, kinds, pauses⟩ := walk
  have notDown : (s.feed f).state ≠ .down := by rcases h.walked with k | k <;> simp [k]
  refine ⟨h.toOnWay.modFeed hl hw, ?_, by simpa [state] using h.walked⟩
  rw [State.feed_modFeed_same]
  apply hl.lawful <;> simp only [state, phases, kinds, pauses, State.walk]
  · exact notDown
  · simpa [notDown] using idle
  · exact kind
  · exact pausing
  · exact held
  · exact pause

/-- The walk context of a walk under way changes, but not its phase, kind and pause. -/
theorem Underway.modWalk (h : Underway f s₀ s) {g : Walk → Walk}
    (figures : (g (s.walk f)).admitted = (s.walk f).admitted ∧ (g (s.walk f)).passed = (s.walk f).passed ∧
      (g (s.walk f)).failed = (s.walk f).failed := by exact ⟨rfl, rfl, rfl⟩)
    (same : (g (s.walk f)).phase = (s.walk f).phase ∧ (g (s.walk f)).kind = (s.walk f).kind ∧
      (g (s.walk f)).pause = (s.walk f).pause := by exact ⟨rfl, rfl, rfl⟩) : Underway f s₀ (s.modWalk f g) :=
  h.modFeed (h.line.of_same (y := { s.feed f with walk := g (s.walk f) }) ⟨rfl, rfl, rfl⟩ ⟨rfl, rfl, rfl⟩ figures)
    rfl rfl same

/-- A DARK district of the feed is admitted by a walk under way. -/
theorem Underway.modDistrict (h : Underway f s₀ s) {d : DistrictId} {g : District → District}
    (hf : s.feedOfDistrict d = f) (dark : (s.district d).state = .dark)
    (hs : (g (s.district d)).state = .queued ∨ (g (s.district d)).state = .soaking ∨
      (g (s.district d)).state = .latched)
    (hw : (g (s.district d)).applyDeferred = (s.district d).applyDeferred) : Underway f s₀ (s.modDistrict d g) :=
  ⟨⟨h.proceeds.trans (.modDistrict hf dark hs hw), h.line⟩, h.lawful, h.walked⟩

theorem Underway.rests (h : Underway f s₀ s) : Rests f s₀ s := by
  refine ⟨h.proceeds, h.lawful, ?_, fun up => ?_, fun _ => ⟨f, h.walked⟩⟩
  · rcases h.walked with k | k <;> simp [k]
  · rcases h.walked with k | k <;> simp [k] at up

/-- A lawful feed in a walk is under way at the beginning of an event. -/
theorem Underway.begin (h : (s.feed f).Lawful) (walked : (s.feed f).state = .walking ∨ (s.feed f).state = .walkHalted) :
    Underway f s s :=
  ⟨⟨.refl f s, h.onLine (by rcases walked with k | k <;> simp [k])⟩, h, walked⟩

/-- A walk under way that does not pause has its kind and no pause timer. -/
theorem Underway.unpaused (h : Underway f s₀ s) (phase : (s.walk f).phase ≠ .pausing) :
    (s.walk f).kind ≠ .none ∧ (s.walk f).pause = none := by
  obtain ⟨-, -, -, ⟨idle, kind, -, -, pause, -⟩, -⟩ := h.lawful
  refine ⟨fun k => ?_, ?_⟩
  · rcases idle.1 (kind.1 k) with k | k <;> rcases h.walked with k' | k' <;> simp [k] at k'
  · rw [← Option.not_isSome_iff_eq_none]
    exact fun k => phase (pause k)

/-- A WALKING feed's walk that works an entry is ready for the next. -/
theorem Underway.ready (h : Underway f s₀ s) (walking : (s.feed f).state = .walking)
    (inEntry : (s.walk f).phase = .inEntry) : Ready f s₀ s :=
  have unpaused := h.unpaused (by simp [inEntry])
  ⟨h.toOnWay, walking, unpaused.1, unpaused.2⟩

/-- A walk that is ready and works an entry is under way. -/
theorem Ready.underway (h : Ready f s₀ s) (inEntry : (s.walk f).phase = .inEntry) : Underway f s₀ s := by
  have kind : (s.feed f).walk.kind ≠ .none := h.kind
  have pause : (s.feed f).walk.pause = none := h.pause
  have phase : (s.feed f).walk.phase = .inEntry := inEntry
  exact ⟨h.toOnWay, h.line.lawful (by simp [h.walking]) (by simp [phase, h.walking]) (by simp [phase, kind])
    (by simp [phase]) (by simp [phase]) (by simp [pause]), .inl h.walking⟩

theorem Ready.post (h : Ready f s₀ s) (ev : Event) : Ready f s₀ (s.post ev) :=
  ⟨h.toOnWay.post ev, h.walking, h.kind, h.pause⟩

/-- The walk context of a walk that is ready changes, but not its kind and pause. -/
theorem Ready.modWalk (h : Ready f s₀ s) {g : Walk → Walk}
    (figures : (g (s.walk f)).admitted = (s.walk f).admitted ∧ (g (s.walk f)).passed = (s.walk f).passed ∧
      (g (s.walk f)).failed = (s.walk f).failed := by exact ⟨rfl, rfl, rfl⟩)
    (same : (g (s.walk f)).kind = (s.walk f).kind ∧ (g (s.walk f)).pause = (s.walk f).pause := by
      exact ⟨rfl, rfl⟩) : Ready f s₀ (s.modWalk f g) :=
  ⟨h.toOnWay.modWalk figures, by simpa using h.walking, by rw [State.walk_modWalk_same, same.1]; exact h.kind,
    by rw [State.walk_modWalk_same, same.2]; exact h.pause⟩

/-! ## Halts and ends (R133, R139) -/

/-- A WALKING feed halts; a pause becomes ENTRY-HELD (R133). -/
theorem Underway.haltWalk (h : Underway f s₀ s) (walking : (s.feed f).state = .walking) (o : Origin)
    (why : HaltReason) : Underway f s₀ (s.haltWalk f o why) := by
  obtain ⟨-, -, -, ⟨idle, kind, -, held, pause, -⟩, -⟩ := h.lawful
  have busy : (s.feed f).walk.phase ≠ .idle := fun k => by simpa [walking] using idle.1 k
  have free : (s.feed f).walk.phase ≠ .entryHeld := fun k => by simpa [walking] using held k
  have line := h.line
  have none : (s.feed f).walk.phase ≠ .pausing → (s.feed f).walk.pause = none := fun k => by
    rw [← Option.not_isSome_iff_eq_none]
    exact fun k' => k (pause k')
  unfold State.haltWalk
  dsimp only
  refine Underway.post ⟨h.toOnWay.modFeed ?_, ?_, .inr (by simp)⟩ _
  · split <;> exact line.of_same
  · rw [State.feed_modFeed_same]
    split
    case isTrue pausing =>
      exact Feed.OnLine.lawful line.of_same (by simp) (by simp) (by simpa [pausing] using kind) (by simp) (by simp)
        (by simp)
    case isFalse running =>
      exact Feed.OnLine.lawful line.of_same (by simp) (by simpa using busy) kind (fun k => absurd k running) (by simp)
        (by simp [none running])

/-- Once the waiting chain table has had its turn, its waiting law holds (R154). -/
theorem State.copyWaitingChains_chainsWait (s : State) : s.copyWaitingChains.ChainsWait := by
  unfold State.copyWaitingChains
  split
  · intro waits
    simp [State.copyChains] at waits
  case isFalse walks =>
    intro waits
    simp only [waits, Bool.true_and, Bool.not_eq_true', Bool.not_eq_false, State.anyWalk, List.any_eq_true,
      Bool.or_eq_true, beq_iff_eq] at walks
    obtain ⟨f, -, walked⟩ := walks
    exact ⟨f, walked⟩

/-- The counter of completed or ended walks rises (R139 step 3, R141). -/
def Feed.walkCounted (why : EndReason) (x : Feed) : Feed :=
  match why with
  | .completed => { x with completed := x.completed.rise }
  | .command | .linkError => { x with ended := x.ended.rise }

theorem Feed.walkCounted_walk (x : Feed) (why : EndReason) : (x.walkCounted why).walk = x.walk := by cases why <;> rfl

theorem Feed.walkCounted_applyDeferred (x : Feed) (why : EndReason) :
    (x.walkCounted why).applyDeferred = x.applyDeferred := by cases why <;> rfl

theorem Feed.OnLine.walkCounted {x : Feed} (h : x.OnLine) (why : EndReason) : (x.walkCounted why).OnLine := by
  cases why
  · exact { h with completed := Counter.rise_le h.completed }
  · exact { h with ended := Counter.rise_le h.ended }
  · exact { h with ended := Counter.rise_le h.ended }

/-- The walk context has stopped and the DARK districts are queued or latched (R139 steps 1 and 2). -/
def State.darkSettled (s : State) (f : FeedId) (why : EndReason) : State :=
  ((s.modWalk f (fun w => w.stopped why.lastEnd)).inState f .dark).foldl (State.settleDark f)
    (s.modWalk f (fun w => w.stopped why.lastEnd))

/-- The end of a walk up to the feed's entry to UP (R139 steps 1 to 4). -/
def State.walkUp (s : State) (f : FeedId) (o : Origin) (why : EndReason) : State :=
  (((s.darkSettled f why).modFeed f (Feed.walkCounted why)).postWalk .walkEnded f o why.code
    (((s.darkSettled f why).modFeed f (Feed.walkCounted why)).walk f).figures).modFeed f
    (fun x => { x with state := .up })

theorem State.endWalk_eq (s : State) (f : FeedId) (o : Origin) (why : EndReason) :
    s.endWalk f o why = ((s.walkUp f o why).runGrantRule f).copyWaitingChains := by cases why <;> rfl

/-- The last part of a walk's end: the feed being UP with none of its districts DARK, the grant rule runs and a waiting
chain table has its turn (R139). -/
theorem OnWay.rests (h : OnWay f s₀ s) (lawful : (s.feed f).Lawful) (up : (s.feed f).state = .up)
    (lit : ∀ d, s.feedOfDistrict d = f → (s.district d).state ≠ .dark) :
    Rests f s₀ (s.runGrantRule f).copyWaitingChains := by
  have goes := (Proceeds.runGrantRule s f).trans (.copyWaitingChains f _)
  have feeds : ∀ t : State, t.copyWaitingChains.feeds = t.feeds := fun t => by
    unfold State.copyWaitingChains; split <;> rfl
  have core : ((s.runGrantRule f).copyWaitingChains.feed f).core = (s.feed f).core := by
    rw [← (Calm.runGrantRule s f).core f, State.feed, feeds, State.feed]
  refine ⟨h.proceeds.trans goes, Feed.lawful_of_core core lawful, ?_, fun _ d hd => ?_,
    State.copyWaitingChains_chainsWait _⟩
  · rw [Feed.state_of_core core, up]; simp
  · have own := lit d (by rwa [goes.walks.feedOfDistrict] at hd)
    rcases goes.states d with k | ⟨-, k⟩ | ⟨-, k, -⟩
    · rw [k]; exact own
    · simp [k]
    · exact absurd k own

/-- The end of a walk: the feed is UP, with its districts queued or latched where they were DARK (R139). -/
theorem OnWay.endWalk (h : OnWay f s₀ s) (o : Origin) (why : EndReason) : Rests f s₀ (s.endWalk f o why) := by
  have stopped : OnWay f s₀ (s.modWalk f (fun w => w.stopped why.lastEnd)) := h.modWalk
  obtain ⟨settles, core, lit⟩ := Proceeds.settleAll f _ (s.modWalk f (fun w => w.stopped why.lastEnd))
    ((s.modWalk f (fun w => w.stopped why.lastEnd)).inState_nodup f .dark)
    (fun d hd => (State.mem_inState _ _ _ _).1 hd)
  rw [State.endWalk_eq, State.walkUp]
  unfold State.darkSettled
  generalize List.foldl (State.settleDark f) _ _ = s₂ at settles core lit ⊢
  have settled : OnWay f s₀ s₂ := ⟨stopped.proceeds.trans settles, .of_core core stopped.line⟩
  have line := settled.line.walkCounted why
  have walk : ((s₂.feed f).walkCounted why).walk = (s.walk f).stopped why.lastEnd :=
    (Feed.walkCounted_walk _ _).trans ((congrArg Feed.walk core).trans (State.walk_modWalk_same s f _))
  refine OnWay.rests (((settled.modFeed line (Feed.walkCounted_applyDeferred _ _)).post _).modFeed ?_) ?_ (by simp)
    fun d hd => ?_
  · simpa [State.postWalk] using line.of_same
  · rw [State.feed_modFeed_same]
    simp only [State.postWalk, State.post_feed, State.feed_modFeed_same]
    exact Feed.OnLine.lawful line.of_same (by simp) (by simp [walk, Walk.stopped]) (by simp [walk, Walk.stopped])
      (by simp [walk, Walk.stopped]) (by simp [walk, Walk.stopped]) (by simp [walk, Walk.stopped])
  · have own : s₂.feedOfDistrict d = f := hd
    rw [settles.walks.feedOfDistrict] at own
    refine lit d ?_
    rw [State.mem_inState]
    tauto

/-! ## Admission (R126) -/

/-- A member that is DARK, and on the feed, is admitted (R75, R126). -/
theorem Underway.admitMember (h : Underway f s₀ s) {m : DistrictId} (hf : s.feedOfDistrict m = f)
    (dark : (s.district m).state = .dark) : Underway f s₀ (s.admitMember f m) := by
  unfold State.admitMember
  refine Underway.modDistrict (h.modFeed ?_) hf dark (.inr (.inl rfl)) (by simp [District.startSoak])
  exact { h.line.of_same (y := s.feed f) with admitted := saturate_le _ }

/-- An admission pass leaves the walk under way, halted by a foreign member or not (R126). -/
theorem Underway.admitFrom (ms : List DistrictId) (h : Underway f s₀ s) (walking : (s.feed f).state = .walking) :
    Underway f s₀ (admitFrom f ms s) := by
  induction ms generalizing s with
  | nil => exact h
  | cons m rest ih =>
    have foreign : Underway f s₀ ((s.modWalk f (fun w => { w with foreignMember := true })).skipMember f) :=
      h.modWalk.modWalk
    unfold Machine.admitFrom
    dsimp only
    split
    · split
      · exact foreign.haltWalk (by simpa [State.skipMember] using walking) _ _
      · exact ih foreign (by simpa [State.skipMember] using walking)
    case isFalse own =>
      split
      · exact ih h.modWalk (by simpa [State.skipMember] using walking)
      case isFalse dark =>
        rw [not_or, not_not] at dark
        split
        · exact ih (h.admitMember (not_not.1 own) dark.1) (by simpa [State.admitMember] using walking)
        · exact h.modWalk

/-! ## Completion, pauses and links (R125, R129, R130) -/

/-- The pause of a done entry begins, or its link is followed, or the walk ends (R130). -/
theorem Ready.pauseOrLink (h : Ready f s₀ s) {visit : Position → State → State}
    (hv : ∀ pos, Rests f s₀ (visit pos s)) : Rests f s₀ (s.pauseOrLink visit f) := by
  unfold State.pauseOrLink
  split
  · have pausing : OnWay f s₀ (s.modWalk f (fun w => { w with phase := .pausing, pause := some (s.pauseAfter f) })) :=
      h.toOnWay.modWalk
    have kind : (s.feed f).walk.kind ≠ .none := h.kind
    refine Underway.rests ⟨pausing, pausing.line.lawful ?_ ?_ ?_ ?_ ?_ ?_, .inl ?_⟩ <;> simp [h.walking, kind]
  · split
    · exact h.toOnWay.endWalk _ _
    · exact hv _

/-- The completion test (R129). A done entry is worked, so that the next visit begins in one. -/
theorem Underway.complete (h : Underway f s₀ s) {visit : Position → State → State}
    (hv : ∀ pos t, Ready f s₀ t → (t.walk f).phase = .inEntry → Rests f s₀ (visit pos t)) :
    Rests f s₀ (s.complete visit f) := by
  unfold State.complete
  split
  case isTrue done =>
    have inEntry : ((s.postEntryDone f).walk f).phase = .inEntry := by
      simp only [State.entryDone, Bool.and_eq_true, decide_eq_true_eq] at done
      exact done.1.1
    have posted : Underway f s₀ (s.postEntryDone f) := h.post _
    split
    case isTrue halted =>
      have held : OnWay f s₀ ((s.postEntryDone f).modWalk f (fun w => { w with phase := .entryHeld })) :=
        posted.toOnWay.modWalk
      obtain ⟨kind, pause⟩ := posted.unpaused (by simp [inEntry])
      simp only [State.walk] at kind pause
      refine Underway.rests ⟨held, held.line.lawful ?_ ?_ ?_ ?_ ?_ ?_, .inr ?_⟩ <;> simp [halted, kind, pause]
    case isFalse going =>
      have ready := posted.ready (posted.walked.resolve_right going) inEntry
      exact ready.pauseOrLink fun pos => hv pos _ ready inEntry
  case isFalse => exact h.rests

/-- A visit and all that follows it in one event (R125). The bound of visits is reached, if ever, in an entry. -/
theorem Ready.visit (n : Nat) (pos : Position) (h : Ready f s₀ s) (hn : n = 0 → (s.walk f).phase = .inEntry) :
    Rests f s₀ (visit n f pos s) := by
  induction n generalizing pos s with
  | zero => exact (h.underway (hn rfl)).rests
  | succ n ih =>
    have moved : Ready f s₀ (s.modWalk f (fun w => { w with position := pos, stepCount := w.stepCount + 1 })) :=
      h.modWalk
    unfold Machine.visit
    dsimp only
    split
    · exact (Ready.modWalk moved).toOnWay.endWalk _ _
    · have working : Ready f s₀ (((s.modWalk f _).modWalk f Walk.working)) := moved.modWalk
      have underway := (working.underway (by simp [Walk.working]))
      exact (underway.admitFrom _ working.walking).complete fun pos t ready inEntry => ih pos ready fun _ => inEntry

theorem Ready.visitEntry (h : Ready f s₀ s) (pos : Position) : Rests f s₀ (s.visitEntry f pos) :=
  h.visit visitBound pos (by simp [visitBound])

/-- A walk starts on a WALKING feed (R123). -/
theorem OnWay.startWalk (h : OnWay f s₀ s) (walking : (s.feed f).state = .walking) (pause : (s.walk f).pause = none)
    (o : Origin) (reason : Nat) : Rests f s₀ (s.startWalk f o reason) := by
  have go : ∀ t : State, Ready f s₀ t → Rests f s₀ (match t.firstPosition f with
      | none => t.endWalk f .device .completed
      | some pos => t.visitEntry f pos) := fun t ht => by
    split
    · exact ht.toOnWay.endWalk _ _
    · exact ht.visitEntry _
  refine go _ (Ready.post ⟨h.modFeed ?_, by simpa using walking, ?_, by simpa [State.walk] using pause⟩ _)
  · exact { h.line.of_same (y := s.feed f) with admitted := Nat.zero_le _, passed := Nat.zero_le _, failed := Nat.zero_le _ }
  · rw [State.walk, State.feed_modFeed_same]
    dsimp only
    split <;> simp

theorem Ready.followLink (h : Ready f s₀ s) : Rests f s₀ (s.followLink f) := by
  unfold State.followLink
  split
  · exact h.toOnWay.endWalk _ _
  · exact h.visitEntry _

theorem Underway.resumeEntry (h : Underway f s₀ s) (walking : (s.feed f).state = .walking) :
    Rests f s₀ (s.resumeEntry f) :=
  (h.admitFrom _ walking).complete fun pos _ ready _ => ready.visitEntry pos

/-! ## Notices (R128) -/

theorem Walk.counted_figures (w : Walk) (d : DistrictId) (o : NoticeOutcome)
    (h : w.admitted ≤ 255 ∧ w.passed ≤ 255 ∧ w.failed ≤ 255) :
    (w.counted d o).admitted ≤ 255 ∧ (w.counted d o).passed ≤ 255 ∧ (w.counted d o).failed ≤ 255 := by
  obtain ⟨admitted, passed, failed⟩ := h
  cases o
  · exact ⟨admitted, saturate_le _, failed⟩
  · exact ⟨admitted, passed, saturate_le _⟩
  · exact ⟨admitted, passed, failed⟩

theorem Walk.counted_phase (w : Walk) (d : DistrictId) (o : NoticeOutcome) :
    (w.counted d o).phase = w.phase ∧ (w.counted d o).kind = w.kind ∧ (w.counted d o).pause = w.pause := by
  cases o <;> exact ⟨rfl, rfl, rfl⟩

/-- The notice of a walk soak reaches a walk under way (R128). -/
theorem Underway.walkNotice (h : Underway f s₀ s) (d : DistrictId) (o : NoticeOutcome) :
    Rests f s₀ (s.walkNotice f d o) := by
  have halt : ∀ t, Underway f s₀ t → Underway f s₀ (if o = .failed ∧ (t.fset f).haltOnError = true ∧
      (t.feed f).state = .walking then t.haltWalk f .device (.memberFailed d) else t) := fun t ht => by
    split
    case isTrue k => exact ht.haltWalk k.2.2 _ _
    case isFalse => exact ht
  have retry : ∀ t, Underway f s₀ t → Underway f s₀ (if (t.feed f).state = .walking ∧ (t.walk f).waiting = true then
      t.runAdmission f else t) := fun t ht => by
    split
    case isTrue k => exact ht.admitFrom _ k.1
    case isFalse => exact ht
  unfold State.walkNotice
  split
  · exact h.rests
  · have counted : Underway f s₀ (s.modWalk f (fun w => w.counted d o)) := by
      obtain ⟨admitted, passed, failed⟩ :=
        Walk.counted_figures (s.walk f) d o ⟨h.line.admitted, h.line.passed, h.line.failed⟩
      exact h.modFeed
        { h.line.of_same (y := s.feed f) with admitted := admitted, passed := passed, failed := failed } rfl rfl
        (Walk.counted_phase _ d o)
    exact (retry _ (halt _ counted)).complete fun pos _ ready _ => ready.visitEntry pos

/-- A halted walk goes on (R135). -/
theorem Underway.resumeWalk (h : Underway f s₀ s) (halted : (s.feed f).state = .walkHalted) (p : Port) :
    Rests f s₀ (s.resumeWalk p f) := by
  obtain ⟨-, -, -, ⟨idle, -, pausing, -⟩, -⟩ := h.lawful
  have busy : (s.walk f).phase ≠ .idle := fun k => by simpa [halted] using idle.1 k
  have notPausing : (s.walk f).phase ≠ .pausing := fun k => by simpa [halted] using pausing k
  obtain ⟨kind, pause⟩ := h.unpaused notPausing
  have begun : Ready f s₀ ((s.modFeed f (fun x => { x with state := .walking })).postWalkStarted f (.port p) 3) :=
    Ready.post ⟨h.toOnWay.modFeed h.line.of_same, by simp, by simpa [State.walk] using kind,
      by simpa [State.walk] using pause⟩ _
  have phase : (((s.modFeed f (fun x => { x with state := .walking })).postWalkStarted f (.port p) 3).walk f).phase =
      (s.walk f).phase := by simp [State.postWalkStarted, State.postWalk, State.walk]
  unfold State.resumeWalk
  dsimp only
  split
  · exact begun.pauseOrLink begun.visitEntry
  case _ inEntry => exact (begun.underway inEntry).resumeEntry begun.walking
  case _ k => exact absurd (phase ▸ k) busy
  case _ k => exact absurd (phase ▸ k) notPausing

end
end Sys2Proof.Machine
end

section
/-! # The laws of feeds, darkness and waiting copies through soak ends, samples and faults (chapters 02 to 05) -/

namespace Sys2Proof.Machine

/-! ## Keeping the laws, but for copies that are yet to be made -/

/-- From `s` to `t` the dark law and the waiting laws are kept, but for copies of the districts `ws` and of the feeds
`fs` that are yet to be made. The premise `P` is what the waiting law of the feeds rests on. -/
structure Kept (P : Prop) (ws : List DistrictId) (fs : List FeedId) (s t : State) : Prop where
  dark : ∀ {d}, s.DarkAt d → t.DarkAt d
  waits : ∀ {d}, d ∉ ws → s.WaitsAt d → t.WaitsAt d
  feedWaits : P → ∀ {f}, f ∉ fs → s.FeedWaits f → t.FeedWaits f
  chains : s.ChainsWait → t.ChainsWait

/-- From lawful feeds the laws are kept, and the feeds are lawful. -/
def Sound (P : Prop) (ws : List DistrictId) (fs : List FeedId) (s t : State) : Prop :=
  s.FeedsLawful → t.FeedsLawful ∧ Kept P ws fs s t

section
variable {P : Prop} {ws : List DistrictId} {fs : List FeedId} {s t u : State}

theorem Kept.trans (h : Kept P ws fs s t) (k : Kept P ws fs t u) : Kept P ws fs s u :=
  ⟨fun l => k.dark (h.dark l), fun hd l => k.waits hd (h.waits hd l),
    fun p _ hf l => k.feedWaits p hf (h.feedWaits p hf l), fun l => k.chains (h.chains l)⟩

theorem Calm.kept (h : Calm [] s t) : Kept P ws fs s t := by
  refine ⟨h.dark (by simp), fun _ => h.waits, fun _ _ _ => h.feedWaits, fun l k => ?_⟩
  obtain ⟨f, walked⟩ := l (h.chains k)
  exact ⟨f, by rw [h.state]; exact walked⟩

theorem Calm.feedsLawful (h : Calm [] s t) (l : s.FeedsLawful) : t.FeedsLawful :=
  fun f => Feed.lawful_of_core (h.core f) (l f)

theorem Calm.sound (h : Calm [] s t) : Sound P ws fs s t := fun l => ⟨h.feedsLawful l, h.kept⟩

theorem Sound.refl (s : State) : Sound P ws fs s s := (Calm.refl [] s).sound

theorem Sound.trans (h : Sound P ws fs s t) (k : Sound P ws fs t u) : Sound P ws fs s u := fun l =>
  ⟨(k (h l).1).1, (h l).2.trans (k (h l).1).2⟩

/-- The copies that are yet to be made are fewer: those of the districts and feeds where the waiting law holds. -/
theorem Sound.close {ws' : List DistrictId} {fs' : List FeedId} (h : Sound P ws fs s t)
    (hw : ∀ d ∈ ws, d ∈ ws' ∨ t.WaitsAt d := by exact fun _ => .inl)
    (hf : ∀ f ∈ fs, f ∈ fs' ∨ t.FeedWaits f := by exact fun _ => .inl) :
    Sound P ws' fs' s t := fun l =>
  ⟨(h l).1, (h l).2.dark, fun {d} hd w => by
      by_cases k : d ∈ ws
      · exact (hw d k).resolve_left hd
      · exact (h l).2.waits k w,
    fun p {f} hf' w => by
      by_cases k : f ∈ fs
      · exact (hf f k).resolve_left hf'
      · exact (h l).2.feedWaits p k w, (h l).2.chains⟩

/-- What a walk leaves when its event is over (chapter 06). -/
theorem Rests.kept {f : FeedId} (h : Rests f s t) : Kept P ws fs s t := by
  have on := h.proceeds.walks.feedOfDistrict
  refine ⟨fun {d} l => ?_, fun {d} _ l k => ?_, fun _ {g} _ l k => ?_, fun _ => h.chains⟩
  · by_cases hd : s.feedOfDistrict d = f
    · rw [State.DarkAt, on, hd]
      exact ⟨fun down => absurd down h.notDown, fun up => h.lit up d ((on d).trans hd)⟩
    · rw [State.DarkAt, on, h.proceeds.walks.otherFeeds _ hd]
      exact ((h.proceeds.states d).follows (.inl hd)).dark l
  · rw [h.proceeds.flags] at k
    have defers := l k
    rcases h.proceeds.states d with same | ⟨queued, -⟩ | ⟨-, dark, -⟩
    · rwa [same]
    · simp [queued, DState.defersApply] at defers
    · simp [dark, DState.defersApply] at defers
  · have waits : (s.feed g).applyDeferred = true := by
      by_cases hg : g = f
      · subst hg; rwa [h.proceeds.deferred] at k
      · rwa [h.proceeds.walks.otherFeeds g hg] at k
    obtain ⟨d, hd, soaks⟩ := l waits
    exact ⟨d, (on d).trans hd, by rw [h.proceeds.walks.bystander d (by simp [soaks]) (by simp [soaks])]; exact soaks⟩

theorem Rests.feedsLawful {f : FeedId} (h : Rests f s t) (l : ∀ g, g ≠ f → (s.feed g).Lawful) : t.FeedsLawful :=
  fun g => by
    by_cases hg : g = f
    · exact hg ▸ h.lawful
    · rw [h.proceeds.walks.otherFeeds g hg]; exact l g hg

theorem Rests.sound {f : FeedId} (h : s.FeedsLawful → Rests f s t) : Sound P ws fs s t := fun l =>
  ⟨(h l).feedsLawful fun g _ => l g, (h l).kept⟩

/-! ## A district leaves a state in which its copy waits -/

/-- District `d` changes state, its waiting copy being yet to be made, and that of its feed where it leaves a soak. -/
theorem Sound.moves {d : DistrictId} {g : District → District}
    (hd : (s.district d).state.Follows (g (s.district d)).state)
    (hs : (s.district d).state = .soaking → s.feedOfDistrict d ∈ fs) : Sound P [d] fs s (s.modDistrict d g) := by
  refine fun l => ⟨l, fun {e} l => ?_, fun {e} he l => ?_, fun _ {f} hf l k => ?_, id⟩
  · rw [State.DarkAt, State.district_modDistrict]
    split
    · subst e; exact hd.dark l
    · exact l
  · rw [State.WaitsAt, State.district_modDistrict_of_ne (by simpa using he)]
    exact l
  · obtain ⟨e, on, soaks⟩ := l k
    refine ⟨e, on, ?_⟩
    rw [State.district_modDistrict_of_ne]
    · exact soaks
    · rintro rfl
      exact hf (on ▸ hs soaks)

/-- A failed district, from a state that is neither OFF, DARK nor LATCHED (R22). -/
theorem Sound.tripOrLatch {d : DistrictId} (hd : (s.district d).state.darkens = true)
    (hs : (s.district d).state = .soaking → s.feedOfDistrict d ∈ fs) (cause : Cause) :
    Sound P [d] fs s (s.tripOrLatch d cause) := by
  unfold State.tripOrLatch
  split
  · exact (Sound.moves (.inr (.inr (.inl rfl))) hs).trans (Calm.post _ _).sound
  · exact .moves (.inr (.inr (.inr ⟨hd, by simp [District.toTripped]⟩))) hs

/-- A LIVE district trips or is latched: it has no copy waiting (R22). -/
theorem Calm.tripOrLatch {s : State} {d : DistrictId} (live : (s.district d).state = .live) (cause : Cause) :
    Calm [] s (s.tripOrLatch d cause) := by
  have free : (s.district d).state.defersApply = false := by rw [live]; rfl
  unfold State.tripOrLatch
  split
  · exact (Calm.moves free (.inr (.inr (.inl rfl)))).trans (.post _ _)
  · exact .moves free (.inr (.inr (.inr ⟨by rw [live]; rfl, by simp [District.toTripped]⟩)))
      (by simp [District.toTripped])

/-- The waiting copy of the district has its turn at last (R150). -/
theorem Sound.deferredCopy {d : DistrictId} (h : Sound P [d] fs s t) : Sound P [] fs s (t.deferredCopy d) :=
  (h.trans (Calm.deferredCopy t d).sound).close (by simp [State.deferredCopy_waitsAt])

/-! ## The notice of a soak's end (R68, R113) -/

theorem Sound.walkNotice (s : State) (f : FeedId) (d : DistrictId) (o : NoticeOutcome) :
    Sound P ws fs s (s.walkNotice f d o) := by
  by_cases idle : (s.walk f).phase = .idle
  · have none : s.walkNotice f d o = s := by rw [State.walkNotice, if_pos idle]
    rw [none]
    exact .refl s
  · refine Rests.sound (f := f) fun l => Underway.walkNotice (.begin (l f) ?_) d o
    obtain ⟨-, -, -, ⟨phase, -⟩, -⟩ := l f
    cases state : (s.feed f).state
    · exact absurd (phase.2 (.inl state)) idle
    · exact .inl rfl
    · exact .inr rfl
    · exact absurd (phase.2 (.inr state)) idle

/-- After the notice the waiting law holds at the feed, whatever held before (R113, R115). -/
theorem Sound.soakEndNotice {f : FeedId} (h : Sound P ws [f] s t) (d : DistrictId) (c : SoakContext)
    (o : NoticeOutcome) : Sound P ws [] s (t.soakEndNotice f d c o) := by
  have noticed : ∀ u : State, Sound P ws [f] u (if c.origin = .individual then u else u.walkNotice f d o) := fun u => by
    split
    · exact .refl u
    · exact .walkNotice u f d o
  have all : Sound P ws [f] s (t.soakEndNotice f d c o) :=
    h.trans (.trans (Calm.modFeed t f).sound ((noticed _).trans
      ((Calm.runGrantRule _ f).trans (.copyWaitingFeed _ f)).sound))
  have settled : (t.soakEndNotice f d c o).FeedWaits f := State.copyWaitingFeed_feedWaits _ f
  exact all.close (hf := by simpa using settled)

/-- A soak fails (R66). -/
theorem Sound.soakFail {d : DistrictId} (soaks : (s.district d).state = .soaking) (c : SoakContext)
    (why : SoakFailure) : Sound P [] [] s (s.soakFail d c why) := by
  have begun : ∀ (g : District → District) (ev : Event), (g (s.district d)).state = (s.district d).state →
      (g (s.district d)).applyDeferred = (s.district d).applyDeferred →
      Sound P [d] [s.feedOfDistrict d] s (((s.modDistrict d g).post ev).tripOrLatch d why.cause) := fun g ev hs hw =>
    ((Calm.rewrites s d hs hw).trans (.post _ ev)).sound.trans (.tripOrLatch (by simp [hs, soaks, DState.darkens])
      (by simp) _)
  unfold State.soakFail State.postDistrict
  exact ((begun _ _ rfl rfl).soakEndNotice d c .failed).deferredCopy

/-- A soak passes (R74). -/
theorem Sound.soakPass {d : DistrictId} (soaks : (s.district d).state = .soaking) (c : SoakContext) :
    Sound P [] [] s (s.soakPass d c) := by
  unfold State.soakPass State.postDistrict
  refine Sound.deferredCopy (Sound.soakEndNotice (Sound.trans (.moves ?_ (by simp)) (Calm.post _ _).sound) d c .passed)
  exact .inr (.inr (.inr ⟨by rw [soaks]; rfl, by simp⟩))

/-! ## Samples (chapters 02 to 04) -/

theorem Calm.trip {s : State} {d : DistrictId} (live : (s.district d).state = .live) (why : Condition) (figure : Nat) :
    Calm [] s (s.trip d why figure) := by
  unfold State.trip State.postDistrict
  exact (Calm.rewrites s d).trans ((Calm.post _ _).trans (.tripOrLatch (by simpa using live) _))

theorem Calm.excuse (s : State) (d : DistrictId) (figure : Nat) : Calm [] s (s.excuse d figure) :=
  (Calm.rewrites s d).trans (.post _ _)

theorem Calm.judgeOccupancy (s : State) (d : DistrictId) : Calm [] s (s.judgeOccupancy d) := by
  unfold State.judgeOccupancy
  dsimp only
  split
  · split
    · exact (Calm.rewrites s d).trans (.post _ _)
    · exact .rewrites s d
  · exact .refl _ s

theorem Calm.evaluateLive {s : State} {d : DistrictId} (live : (s.district d).state = .live) (x : Nat) :
    Calm [] s (s.evaluateLive d x) := by
  have excused := Calm.excuse s d x
  unfold State.evaluateLive
  dsimp only
  split
  · split
    · exact .trip live _ _
    · split
      · exact excused.trans (.trip (by simpa [State.excuse, State.postDistrict] using live) _ _)
      · exact excused
  · split
    · exact .trip live _ _
    · exact .refl _ s

theorem Calm.evaluatePlain {s : State} {d : DistrictId} (live : (s.district d).state = .live) (x : Nat) :
    Calm [] s (s.evaluatePlain d x) := by
  unfold State.evaluatePlain
  split
  · exact .refl _ s
  · split
    · exact .rewrites s d
    · exact .evaluateLive live x

theorem Calm.resolveDeferral {s : State} {d : DistrictId} (live : (s.district d).state = .live) (df : Deferral) :
    Calm [] s (s.resolveDeferral d df) := by
  unfold State.resolveDeferral
  dsimp only
  split
  · exact (Calm.rewrites s d).trans (.excuse _ d _)
  · exact (Calm.rewrites s d).trans (.trip (by simpa using live) _ _)

theorem Calm.evaluatePartner {s : State} {d : DistrictId} (live : (s.district d).state = .live) (x : Nat) :
    Calm [] s (s.evaluatePartner d x) := by
  unfold State.evaluatePartner
  split
  · exact .refl _ s
  · split
    · exact .evaluatePlain live x
    · dsimp only
      split
      case isTrue still => exact (Calm.resolveDeferral live _).trans (.evaluatePlain still x)
      case isFalse => exact .resolveDeferral live _

/-- A swap begins at a LIVE district, and its partner comes to be in grace (R81). -/
theorem Calm.swapTrigger {s : State} {v : DistrictId} (live : (s.district v).state = .live) :
    Calm [] s (s.swapTrigger v) := by
  have begun : Calm [] s (s.modDistrict v (fun r =>
      { r with preSwap := some r.polarity, polarity := r.polarity.toggled
               deadTime := some (s.dset v).deadTime }.enter .swapping)) :=
    .moves (by rw [live]; rfl) (.inr (.inr (.inr ⟨by rw [live]; rfl, by simp⟩)))
  unfold State.swapTrigger
  dsimp only
  split
  · exact begun
  · split
    · exact begun.trans (.rewrites _ _)
    · exact begun

theorem Calm.evaluateReversing {s : State} {d : DistrictId} (live : (s.district d).state = .live) (x : Nat) :
    Calm [] s (s.evaluateReversing d x) := by
  unfold State.evaluateReversing
  split
  · exact .swapTrigger live
  · split
    · split
      · exact .swapTrigger live
      · exact .trip live _ _
    · exact .refl _ s

/-- A swap succeeds (R85). -/
theorem Sound.swapSuccess {v : DistrictId} (checks : (s.district v).state = .swapCheck) :
    Sound P [] [] s (s.swapSuccess v) := by
  unfold State.swapSuccess State.postDistrict
  refine Sound.deferredCopy (Sound.trans (.moves (.inr (.inr (.inr ⟨by rw [checks]; rfl, by simp⟩))) ?_)
    ((Calm.post _ _).trans (.endGrace _ v)).sound)
  simp [checks]

/-- A swap fails (R86). -/
theorem Sound.swapFail {v : DistrictId} (checks : (s.district v).state = .swapCheck) (test figure : Nat) :
    Sound P [] [] s (s.swapFail v test figure) := by
  unfold State.swapFail State.postDistrict
  refine Sound.deferredCopy (Sound.trans ((Calm.rewrites s v).trans ((Calm.post _ _).trans (.endGrace _ v))).sound
    (.tripOrLatch ?_ (fun soaks => ?_) _))
  · rw [State.endGrace_district]; simp [checks, DState.darkens]
  · rw [State.endGrace_district] at soaks; simp [checks] at soaks

theorem Sound.evaluateCheck {d : DistrictId} (checks : (s.district d).state = .swapCheck) (x : Nat) :
    Sound P [] [] s (s.evaluateCheck d x) := by
  unfold State.evaluateCheck
  split
  · exact .swapFail checks _ _
  · split
    · exact .swapFail checks _ _
    · have counted := Calm.rewrites s d (g := fun r => { r with checkCount := some ((s.district d).checkCount.getD 0 + 1) })
      dsimp only
      split
      · exact counted.sound.trans (.swapSuccess (by simpa using checks))
      · exact counted.sound

theorem Sound.evaluateSoak {d : DistrictId} (soaks : (s.district d).state = .soaking) (x : Nat) :
    Sound P [] [] s (s.evaluateSoak d x) := by
  unfold State.evaluateSoak
  split
  · exact .refl s
  · dsimp only
    split
    · exact .soakFail soaks _ _
    · split
      · exact .soakFail soaks _ _
      · split
        · split
          · exact .soakPass soaks _
          · exact .soakFail soaks _ _
        · exact (Calm.rewrites s d).sound

/-- The evaluation of a sample (R34). -/
theorem Sound.evaluate (s : State) (d : DistrictId) (x : Nat) : Sound P [] [] s (s.evaluate d x) := by
  unfold State.evaluate
  split
  case _ soaks => exact .evaluateSoak soaks x
  case _ checks => exact .evaluateCheck checks x
  case _ live =>
    split
    · exact (Calm.evaluateReversing live x).sound
    · exact (Calm.evaluatePartner live x).sound
  all_goals exact .refl s

theorem Sound.takeSample (s : State) (d : DistrictId) (x : Nat) : Sound P [] [] s (s.takeSample d x) := by
  unfold State.takeSample
  split
  · exact .refl s
  · exact ((Calm.rewrites s d).trans (.judgeOccupancy _ d)).sound.trans (.evaluate _ d x)

/-! ## Entry to OFF (R11) -/

theorem Calm.offBegun (s : State) (d : DistrictId) : Calm [] s (s.offBegun d) :=
  (Calm.abandonSwap s d).trans (.rewrites _ d (by simp) (by simp [District.recordSoak_eq]))

/-- The entry to OFF before the notice: the copy of the district is yet to be made, and where it leaves a soak that of
its feed. -/
theorem Sound.leftForOff (d : DistrictId) (hs : (s.district d).state = .soaking → s.feedOfDistrict d ∈ fs) :
    Sound P [d] fs s (s.leftForOff d) := by
  have state := (s.offBegun_district d).1
  have left : Sound P [d] fs (s.offBegun d) ((s.offBegun d).modDistrict d (fun r => r.enter .off)) :=
    .moves (.inr (.inl rfl)) (by rw [state, State.offBegun_feedOfDistrict]; exact hs)
  have goes : s.leftForOff d = (s.offBegun d).leaveFor (s.feedOfDistrict d) d .off := rfl
  rw [goes]
  refine (Calm.offBegun s d).sound.trans ?_
  unfold State.leaveFor
  dsimp only
  split
  · exact left.trans ((Calm.modFeed _ _).trans (.runGrantRule _ _)).sound
  · exact left

/-- The entry to OFF, with the notice of an aborted soak: a SOAKING district has the soak context that the notice
needs. -/
theorem Sound.toOff {d : DistrictId}
    (soaks : P → (s.district d).state = .soaking → (s.district d).soak.isSome = true) :
    Sound P [d] [] s (s.toOff d) := by
  rw [State.toOff_eq, State.soakOf]
  by_cases soaking : (s.district d).state = .soaking
  · rw [if_pos soaking]
    have left : Sound P [d] [s.feedOfDistrict d] s (s.leftForOff d) := .leftForOff d (by simp)
    split
    · exact left.soakEndNotice d _ .aborted
    case _ none =>
      refine fun l => ⟨(left l).1, (left l).2.dark, (left l).2.waits, fun p => ?_, (left l).2.chains⟩
      exact absurd (soaks p soaking) (by simp [none])
  · rw [if_neg soaking]
    exact .leftForOff d fun k => absurd k soaking

end

end Sys2Proof.Machine
end

section
/-! # The laws of feeds, darkness and waiting copies through faults and CYCLE-FEED (R99 to R104, R116) -/

namespace Sys2Proof.Machine

/-! ## Rewritten records -/

/-- From `s` to `t` the districts keep state, waiting copy and feed. -/
structure Still (s t : State) : Prop where
  states : ∀ d, (t.district d).state = (s.district d).state
  flags : ∀ d, (t.district d).applyDeferred = (s.district d).applyDeferred
  on : ∀ d, t.feedOfDistrict d = s.feedOfDistrict d

theorem Still.refl (s : State) : Still s s := ⟨fun _ => rfl, fun _ => rfl, fun _ => rfl⟩

theorem Still.trans {s t u : State} (h : Still s t) (k : Still t u) : Still s u :=
  ⟨fun d => (k.states d).trans (h.states d), fun d => (k.flags d).trans (h.flags d), fun d => (k.on d).trans (h.on d)⟩

theorem Still.rewrites (s : State) (d : DistrictId) {g : District → District}
    (hs : (g (s.district d)).state = (s.district d).state := by rfl)
    (hw : (g (s.district d)).applyDeferred = (s.district d).applyDeferred := by rfl) :
    Still s (s.modDistrict d g) := by
  refine ⟨fun e => ?_, fun e => ?_, fun _ => rfl⟩ <;> rw [State.district_modDistrict] <;> split
  · subst e; exact hs
  · rfl
  · subst e; exact hw
  · rfl

theorem Still.offBegun (s : State) (d : DistrictId) : Still s (s.offBegun d) := by
  have graced : Still s (s.abandonSwap d) := by
    unfold State.abandonSwap State.endGrace
    split
    · split
      · exact .refl s
      · exact .rewrites s _
    · exact .refl s
  exact graced.trans (.rewrites _ d (by simp) (by simp [District.recordSoak_eq]))

/-- The capture of the implicated set rewrites suspect counts (R100). -/
theorem Still.capture (s : State) (f : FeedId) : Still s (s.capture f) := by
  have raised : ∀ (ds : List DistrictId) (t : State), Still t
      (ds.foldl (fun s d => s.modDistrict d (fun r => { r with suspect := min 2 (r.suspect + 1) })) t) := by
    intro ds
    induction ds with
    | nil => exact .refl
    | cons d ds ih => exact fun t => (Still.rewrites t d).trans (ih _)
  exact Still.trans (t := s.modFeed f _) ⟨fun _ => rfl, fun _ => rfl, fun _ => rfl⟩ (raised _ _)

theorem State.capture_feed (s : State) (f g : FeedId) :
    ((s.capture f).feed g).core = (s.feed g).core ∧
      ((s.capture f).feed g).applyDeferred = (s.feed g).applyDeferred := by
  unfold State.capture
  rw [State.foldl_modDistrict_feed (fun _ r => { r with suspect := min 2 (r.suspect + 1) }), State.feed_modFeed]
  split
  · subst g; exact ⟨rfl, rfl⟩
  · exact ⟨rfl, rfl⟩

/-! ## Darkened districts (R101) -/

/-- From `s` to `t` the districts `ds` have gone DARK; else the districts keep state, waiting copy and feed, and the
feeds all but their queues. -/
structure Dims (ds : List DistrictId) (s t : State) : Prop where
  states : ∀ d, (t.district d).state = if d ∈ ds then .dark else (s.district d).state
  flags : ∀ d, (t.district d).applyDeferred = (s.district d).applyDeferred
  on : ∀ d, t.feedOfDistrict d = s.feedOfDistrict d
  core : ∀ g, (t.feed g).core = (s.feed g).core
  deferred : ∀ g, (t.feed g).applyDeferred = (s.feed g).applyDeferred
  chains : t.chainApplyWaiting = s.chainApplyWaiting

theorem State.abandonSwap_chains (s : State) (d : DistrictId) :
    (s.abandonSwap d).chainApplyWaiting = s.chainApplyWaiting := by
  unfold State.abandonSwap State.endGrace
  split
  · split <;> rfl
  · rfl

theorem Dims.darken (f : FeedId) (s : State) (d : DistrictId) : Dims [d] s (s.darken f d) := by
  have still := Still.offBegun s d
  have dark := Darkened.darken f s d
  have record : ∀ e, (s.darken f d).district e =
      if e = d then ((s.offBegun d).district d).enter .dark else (s.offBegun d).district e := fun e => by
    rw [State.darken_eq, State.leaveQueue, State.modFeed_district, State.district_modDistrict]
  have feed : ∀ g, ((s.darken f d).feed g).core = (s.feed g).core ∧
      ((s.darken f d).feed g).applyDeferred = (s.feed g).applyDeferred := fun g => by
    by_cases hg : g = f
    · subst hg; rw [dark.feed]; exact ⟨rfl, rfl⟩
    · rw [dark.otherFeeds g hg]; exact ⟨rfl, rfl⟩
  refine ⟨fun e => ?_, fun e => ?_, dark.feedOfDistrict, fun g => (feed g).1, fun g => (feed g).2, ?_⟩
  · simp only [record, List.mem_singleton]
    split
    · simp
    · exact still.states e
  · rw [record]
    split
    · subst e; rw [District.enter_applyDeferred]; exact still.flags _
    · exact still.flags e
  · exact s.abandonSwap_chains d

theorem Dims.darkenAll (f : FeedId) (ds : List DistrictId) (s : State) : Dims ds s (ds.foldl (State.darken f) s) := by
  induction ds generalizing s with
  | nil => exact ⟨by simp, fun _ => rfl, fun _ => rfl, fun _ => rfl, fun _ => rfl, rfl⟩
  | cons d ds ih =>
    have one := Dims.darken f s d
    have rest := ih (s.darken f d)
    refine ⟨fun e => ?_, fun e => (rest.flags e).trans (one.flags e), fun e => (rest.on e).trans (one.on e),
      fun g => (rest.core g).trans (one.core g), fun g => (rest.deferred g).trans (one.deferred g),
      rest.chains.trans one.chains⟩
    rw [List.foldl_cons, rest.states, one.states]
    by_cases he : e ∈ ds
    · simp [he]
    · simp [he]

theorem State.mem_toDarken (s : State) (f : FeedId) (d : DistrictId) :
    d ∈ s.toDarken f ↔ s.feedOfDistrict d = f ∧ (s.district d).state.darkens = true := by
  simp [State.toDarken, State.districtsOf, mem_allDistricts, and_comm]

/-- A feed's districts once those in service have gone DARK: OFF, DARK or LATCHED (R99, R105). -/
theorem Dims.rests {f : FeedId} {s t : State} (h : Dims (s.toDarken f) s t) {d : DistrictId}
    (hd : s.feedOfDistrict d = f) : (t.district d).state.darkens = false := by
  rw [h.states]
  split
  · rfl
  case isFalse hn =>
    rw [State.mem_toDarken] at hn
    exact Bool.eq_false_iff.2 fun k => hn ⟨hd, k⟩

/-- A district of another feed keeps its state. -/
theorem Dims.others {f : FeedId} {s t : State} (h : Dims (s.toDarken f) s t) {d : DistrictId}
    (hd : s.feedOfDistrict d ≠ f) : (t.district d).state = (s.district d).state := by
  rw [h.states, if_neg fun k => hd ((s.mem_toDarken f d).1 k).1]

/-! ## The accepted fault (R99) -/

/-- The books of a feed emptied and its walk aborted (R99 steps 3 and 4). -/
def State.emptied (s : State) (f : FeedId) : State :=
  (s.modFeed f (fun x => { x with queue := [], pool := 0, slots := 0 })).abortAnyWalk f

/-- The part of an accepted fault before the waiting copies (R99 to R101, R140). -/
def State.faultTaken (s : State) (f : FeedId) : State :=
  let dark := ((s.capture f).toDarken f).foldl (State.darken f) (s.capture f)
  let down := (dark.emptied f).modFeed f (fun x => { x with accepted := .faulted, state := .down, fell := true })
  down.post { kind := .feedDown, subject := .feed f, origin := .device, detail := byteOf (dark.feed f).state.code,
              value := districtMask (down.feed f).implicated }

theorem State.acceptFault_eq (s : State) (f : FeedId) :
    s.acceptFault f = ((((s.capture f).toDarken f).foldl State.deferredCopy (s.faultTaken f)).copyWaitingFeed
      f).copyWaitingChains := by
  unfold State.acceptFault State.faultTaken State.emptied
  simp only [State.feed_modFeed_same]

/-- A feed whose line has gone FAULTED, the fault not yet accepted: state, walk and counters are those it had. -/
structure Feed.Falls (x : Feed) : Prop where
  raw : x.raw = .faulted
  debounce : x.debounce = none
  notDown : x.state ≠ .down
  walk : x.walk.Lawful x.state
  completed : x.completed.count ≤ 255
  ended : x.ended.count ≤ 255
  aborted : x.abortedWalks.count ≤ 255

theorem Feed.Falls.of_core {x y : Feed} (h : y.core = x.core) (hx : x.Falls) : y.Falls := by
  have falls : x.core.Falls := ⟨hx.raw, hx.debounce, hx.notDown, hx.walk, hx.completed, hx.ended, hx.aborted⟩
  rw [← h] at falls
  exact ⟨falls.raw, falls.debounce, falls.notDown, falls.walk, falls.completed, falls.ended, falls.aborted⟩

/-- A lawful feed with a HEALTHY line, when the line goes FAULTED. -/
theorem Feed.Lawful.falls {x : Feed} (h : x.Lawful) (hx : x.accepted = .healthy) :
    Feed.Falls { x with raw := .faulted, debounce := none } := by
  obtain ⟨down, -, -, walk, completed, ended, aborted⟩ := h
  exact ⟨rfl, rfl, fun k => by simp [down.1 k] at hx, walk, completed, ended, aborted⟩

/-- A DOWN feed with a FAULTED line and no walk, its figures and counters in range. -/
theorem Feed.lawful_of_down {x : Feed} (line : x.state = .down ∧ x.accepted = .faulted ∧ x.raw = .faulted ∧
      x.debounce = none) (idle : x.walk.phase = .idle ∧ x.walk.kind = .none ∧ x.walk.pause = none)
    (figures : x.walk.admitted ≤ 255 ∧ x.walk.passed ≤ 255 ∧ x.walk.failed ≤ 255)
    (counts : x.completed.count ≤ 255 ∧ x.ended.count ≤ 255 ∧ x.abortedWalks.count ≤ 255) : x.Lawful := by
  obtain ⟨state, accepted, raw, debounce⟩ := line
  obtain ⟨phase, kind, pause⟩ := idle
  refine ⟨by simp [state, accepted], fun _ => accepted, by simp [debounce, raw], ⟨?_, ?_, ?_, ?_, ?_, figures⟩, counts⟩
  · simp [phase, state]
  · simp [phase, kind]
  · simp [phase]
  · simp [phase]
  · simp [pause]

/-- The record of a feed that a fault has brought DOWN is lawful, a walk being over (R99, R140). -/
theorem State.abortAnyWalk_lawful {s : State} {f : FeedId} (h : (s.feed f).Falls) :
    Feed.Lawful { (s.abortAnyWalk f).feed f with accepted := .faulted, state := .down, fell := true } := by
  obtain ⟨raw, debounce, notDown, ⟨idle, kind, -, -, pause, figures⟩, completed, ended, aborted⟩ := h
  have stopped : (s.abortWalk f).feed f =
      { s.feed f with walk := (s.feed f).walk.stopped .aborted, abortedWalks := (s.feed f).abortedWalks.rise } := by
    simp [State.abortWalk, State.postWalk]
  have aborts : Feed.Lawful { (s.abortWalk f).feed f with accepted := .faulted, state := .down, fell := true } := by
    rw [stopped]
    exact Feed.lawful_of_down ⟨rfl, rfl, raw, debounce⟩ ⟨rfl, rfl, rfl⟩ figures
      ⟨completed, ended, Counter.rise_le aborted⟩
  unfold State.abortAnyWalk
  split
  · exact aborts
  · exact aborts
  case _ down => exact absurd down notDown
  case _ up =>
    have rests := idle.2 (.inr up)
    refine Feed.lawful_of_down ⟨rfl, rfl, raw, debounce⟩ ⟨rests, kind.2 rests, ?_⟩ figures ⟨completed, ended, aborted⟩
    rw [← Option.not_isSome_iff_eq_none]
    exact fun k => by simp [pause k] at rests

theorem State.abortAnyWalk_other (s : State) {f g : FeedId} (hg : g ≠ f) : (s.abortAnyWalk f).feed g = s.feed g := by
  unfold State.abortAnyWalk State.abortWalk State.postWalk
  split <;> simp [State.feed_modFeed, hg]

theorem State.abortAnyWalk_district (s : State) (f : FeedId) (d : DistrictId) :
    (s.abortAnyWalk f).district d = s.district d ∧ (s.abortAnyWalk f).feedOfDistrict d = s.feedOfDistrict d := by
  unfold State.abortAnyWalk State.abortWalk
  split <;> exact ⟨rfl, rfl⟩

/-- From `s` to `t` the districts of feed `f` in service have gone DARK and the feed DOWN; districts keep their waiting
copies, other districts their states, and other feeds all but their queues. -/
structure Downs (f : FeedId) (s t : State) : Prop where
  rests : ∀ {d}, s.feedOfDistrict d = f → (t.district d).state.darkens = false
  bystander : ∀ {d}, d ∉ s.toDarken f → (t.district d).state = (s.district d).state
  flags : ∀ d, (t.district d).applyDeferred = (s.district d).applyDeferred
  on : ∀ d, t.feedOfDistrict d = s.feedOfDistrict d
  core : ∀ {g}, g ≠ f → (t.feed g).core = (s.feed g).core
  deferred : ∀ {g}, g ≠ f → (t.feed g).applyDeferred = (s.feed g).applyDeferred
  lawful : (t.feed f).Lawful
  down : (t.feed f).state = .down

theorem State.capture_toDarken (s : State) (f : FeedId) : (s.capture f).toDarken f = s.toDarken f := by
  have still := Still.capture s f
  have own : (s.capture f).districtsOf f = s.districtsOf f := by simp [State.districtsOf, still.on]
  simp [State.toDarken, own, still.states]

theorem State.faultTaken_downs {s : State} {f : FeedId} (h : (s.feed f).Falls) : Downs f s (s.faultTaken f) := by
  have still := Still.capture s f
  have feeds := s.capture_feed f
  have dims := Dims.darkenAll f (s.toDarken f) (s.capture f)
  rw [← s.capture_toDarken f] at dims
  unfold State.faultTaken
  generalize ((s.capture f).toDarken f).foldl (State.darken f) (s.capture f) = dark at dims ⊢
  dsimp only
  have district : ∀ e, (dark.emptied f).district e = dark.district e := fun e => (State.abortAnyWalk_district _ f e).1
  have on : ∀ e, (dark.emptied f).feedOfDistrict e = dark.feedOfDistrict e := fun e =>
    (State.abortAnyWalk_district _ f e).2
  have other : ∀ g, g ≠ f → (dark.emptied f).feed g = dark.feed g := fun g hg => by
    rw [State.emptied, State.abortAnyWalk_other _ hg, State.feed_modFeed, if_neg hg]
  have falls : ((dark.modFeed f (fun x => { x with queue := [], pool := 0, slots := 0 })).feed f).Falls := by
    refine h.of_core (Eq.trans ?_ ((dims.core f).trans (feeds f).1))
    simp [Feed.core]
  have lawful := State.abortAnyWalk_lawful falls
  rw [← State.emptied] at lawful
  refine ⟨fun {d} hd => ?_, fun {d} hd => ?_, fun d => ?_, fun d => ?_, fun {g} hg => ?_, fun {g} hg => ?_, ?_, ?_⟩
  · rw [State.post_district, State.modFeed_district, district]
    exact dims.rests ((still.on d).trans hd)
  · rw [State.post_district, State.modFeed_district, district, dims.states, State.capture_toDarken, if_neg hd,
      still.states]
  · rw [State.post_district, State.modFeed_district, district, dims.flags, still.flags]
  · exact (on d).trans ((dims.on d).trans (still.on d))
  · rw [State.post_feed, State.feed_modFeed, if_neg hg, other g hg, dims.core, (feeds g).1]
  · rw [State.post_feed, State.feed_modFeed, if_neg hg, other g hg, dims.deferred, (feeds g).2]
  · simpa using lawful
  · simp

/-- After an accepted fault the laws hold: the waiting copies of the darkened districts, of the feed and of the chain
table have had their turn (R99, R150, R154). -/
theorem State.acceptFault_sound {P : Prop} {s : State} {f : FeedId} (hf : (s.feed f).Falls)
    (hg : ∀ g, g ≠ f → (s.feed g).Lawful) : (s.acceptFault f).FeedsLawful ∧ Kept P [] [] s (s.acceptFault f) := by
  have downs := State.faultTaken_downs hf
  rw [State.acceptFault_eq, State.capture_toDarken]
  generalize s.faultTaken f = t at downs ⊢
  have copies := Calm.foldl Calm.deferredCopy (s.toDarken f) t
  have chains : ∀ u : State, Calm [] u u.copyWaitingChains := fun u => by
    unfold State.copyWaitingChains
    split
    · exact .of_eq rfl rfl rfl (by simp [State.copyChains])
    · exact .refl _ u
  have rest := (Calm.copyWaitingFeed ((s.toDarken f).foldl State.deferredCopy t) f).trans (chains _)
  have all := copies.trans rest
  refine ⟨all.feedsLawful fun g => ?_, fun {d} l => all.dark (by simp) ?_, fun {d} _ l => ?_, fun _ {g} _ l => ?_, fun _ =>
    State.copyWaitingChains_chainsWait _⟩
  · by_cases k : g = f
    · exact k ▸ downs.lawful
    · exact Feed.lawful_of_core (downs.core k) (hg g k)
  · rw [State.DarkAt, downs.on]
    by_cases k : s.feedOfDistrict d = f
    · rw [k, downs.down]
      exact ⟨fun _ => downs.rests k, by simp⟩
    · rw [Feed.state_of_core (downs.core k), downs.bystander fun own => k ((s.mem_toDarken f d).1 own).1]
      exact l
  · by_cases own : d ∈ s.toDarken f
    · exact rest.waits (State.deferredCopies_waitsAt own t)
    · refine all.waits ?_
      rw [State.WaitsAt, downs.flags, downs.bystander own]
      exact l
  · by_cases k : g = f
    · subst k
      exact (chains _).feedWaits (State.copyWaitingFeed_feedWaits _ g)
    · refine all.feedWaits fun waits => ?_
      rw [downs.deferred k] at waits
      obtain ⟨d, on, soaks⟩ := l waits
      refine ⟨d, (downs.on d).trans on, ?_⟩
      rw [downs.bystander fun own => k (on ▸ ((s.mem_toDarken f d).1 own).1)]
      exact soaks

end Sys2Proof.Machine
end

section
/-! # The laws of feeds, darkness and waiting copies through lines and walk commands (R98, R103, R116, R134 to R137) -/

namespace Sys2Proof.Machine

section
variable {P : Prop} {ws : List DistrictId} {fs : List FeedId} {s t : State} {f : FeedId}

/-! ## A feed changes state -/

/-- Feed `f` takes another record, no district being touched: it is not DOWN, and UP only where none of its districts
is DARK. -/
theorem Kept.modFeed {g : Feed → Feed} (notDown : (g (s.feed f)).state ≠ .down)
    (lit : (g (s.feed f)).state = .up → ∀ d, s.feedOfDistrict d = f → (s.district d).state ≠ .dark)
    (chains : s.ChainsWait → (s.modFeed f g).ChainsWait)
    (hw : (g (s.feed f)).applyDeferred = (s.feed f).applyDeferred := by rfl) : Kept P ws fs s (s.modFeed f g) := by
  refine ⟨fun {d} l => ?_, fun _ => id, fun _ {e} _ l k => ?_, chains⟩
  · rw [State.DarkAt, State.feed_modFeed, show (s.modFeed f g).feedOfDistrict d = s.feedOfDistrict d from rfl]
    split
    case isTrue own => exact ⟨fun down => absurd down notDown, fun up => lit up d own⟩
    case isFalse => exact l
  · rw [State.feed_modFeed] at k
    split at k
    · subst e
      exact l (hw ▸ k)
    · exact l k

/-- States whose districts have the same states, feeds and waiting copies, whose feeds the same states and waiting
copies. -/
theorem Kept.of_same (hs : ∀ d, (t.district d).state = (s.district d).state)
    (hw : ∀ d, (t.district d).applyDeferred = (s.district d).applyDeferred)
    (hd : ∀ d, t.feedOfDistrict d = s.feedOfDistrict d) (hf : ∀ f, (t.feed f).state = (s.feed f).state)
    (ha : ∀ f, (t.feed f).applyDeferred = (s.feed f).applyDeferred)
    (hc : t.chainApplyWaiting = s.chainApplyWaiting) : Kept P ws fs s t := by
  refine ⟨fun {d} l => ?_, fun {d} _ l => ?_, fun _ {f} _ l k => ?_, fun c k => ?_⟩
  · rw [State.DarkAt, hd, hs, hf]; exact l
  · rw [State.WaitsAt, hs, hw]; exact l
  · obtain ⟨d, on, soaks⟩ := l (ha f ▸ k)
    exact ⟨d, (hd d).trans on, (hs d).trans soaks⟩
  · obtain ⟨f, walked⟩ := c (hc ▸ k)
    exact ⟨f, by rw [hf]; exact walked⟩

/-- A feed's record changes, but not its state. -/
theorem Kept.modFeed_of_state {g : Feed → Feed} (hs : (g (s.feed f)).state = (s.feed f).state)
    (hw : (g (s.feed f)).applyDeferred = (s.feed f).applyDeferred) : Kept P ws fs s (s.modFeed f g) := by
  refine .of_same (fun _ => rfl) (fun _ => rfl) (fun _ => rfl) (fun e => ?_) (fun e => ?_) rfl <;>
    rw [State.feed_modFeed] <;> split
  · subst e; exact hs
  · rfl
  · subst e; exact hw
  · rfl

theorem Sound.modFeed {g : Feed → Feed} (lawful : (s.feed f).Lawful → (g (s.feed f)).Lawful)
    (hs : (g (s.feed f)).state = (s.feed f).state := by rfl)
    (hw : (g (s.feed f)).applyDeferred = (s.feed f).applyDeferred := by rfl) : Sound P ws fs s (s.modFeed f g) := by
  refine fun l => ⟨fun e => ?_, .modFeed_of_state hs hw⟩
  rw [State.feed_modFeed]
  split
  case isTrue own => subst own; exact lawful (l _)
  case isFalse => exact l e

theorem State.ChainsWait.of_walking (h : (s.feed f).state = .walking) : s.ChainsWait := fun _ => ⟨f, .inl h⟩

/-- A walk starts on a feed that has just become WALKING, after the laws were kept. -/
theorem Kept.startWalk (kept : Kept P ws fs s t) (line : (t.feed f).OnLine) (walking : (t.feed f).state = .walking)
    (pause : (t.walk f).pause = none) (others : ∀ g, g ≠ f → (t.feed g).Lawful) (o : Origin) (reason : Nat) :
    (t.startWalk f o reason).FeedsLawful ∧ Kept P ws fs s (t.startWalk f o reason) := by
  have rests := OnWay.startWalk ⟨.refl f t, line⟩ walking pause o reason
  exact ⟨rests.feedsLawful others, kept.trans rests.kept⟩

/-! ## Fault lines (R98, R99, R102, R103) -/

theorem Feed.raw_eq {x : Feed} {level : Level} (h : x.raw ≠ level) : x.raw = .faulted ↔ level = .healthy := by
  cases k : x.raw <;> cases level <;> simp_all

theorem Sound.lineChanges (s : State) (f : FeedId) (level : Level) : Sound P [] [] s (s.lineChanges f level) := by
  unfold State.lineChanges
  split
  · exact .refl s
  case isFalse changed =>
    cases level with
    | faulted =>
      dsimp only
      split
      case isTrue healthy =>
        rw [State.feed_modFeed_same] at healthy
        intro l
        obtain ⟨lawful, kept⟩ := State.acceptFault_sound (P := P) (f := f)
          (s := s.modFeed f (fun x => { x with raw := .faulted, debounce := none }))
          (by rw [State.feed_modFeed_same]; exact (l f).falls healthy)
          (fun g hg => by rw [State.feed_modFeed, if_neg hg]; exact l g)
        exact ⟨lawful, (Kept.modFeed_of_state rfl rfl).trans kept⟩
      case isFalse faulted =>
        rw [State.feed_modFeed_same] at faulted
        have accepted : (s.feed f).accepted = .faulted := by
          cases k : (s.feed f).accepted
          · rfl
          · exact absurd k faulted
        refine .modFeed fun l => ?_
        obtain ⟨down, -, -, walk, counts⟩ := l
        exact ⟨down, fun _ => accepted, by simp, walk, counts⟩
    | healthy =>
      refine .modFeed fun l => ?_
      obtain ⟨down, line, -, walk, counts⟩ := l
      have accepted := line ((Feed.raw_eq changed).2 rfl)
      exact ⟨down, by simp, by simp [accepted], walk, counts⟩

/-- What a lawful feed is while its debounce timer runs (R98). -/
theorem Feed.Lawful.debounced {x : Feed} (h : x.Lawful) (hd : x.debounce.isSome = true) :
    x.state = .down ∧ x.raw = .healthy ∧ x.walk.phase = .idle ∧ x.walk.kind = .none ∧ x.walk.pause = none := by
  obtain ⟨down, -, debounce, ⟨idle, kind, -, -, pause, -⟩, -⟩ := h
  obtain ⟨accepted, raw⟩ := debounce.1 hd
  have state := down.2 accepted
  have phase := idle.2 (.inl state)
  refine ⟨state, raw, phase, kind.2 phase, ?_⟩
  rw [← Option.not_isSome_iff_eq_none]
  exact fun k => by simp [pause k] at phase

/-- The accepted HEALTHY level: the record before the feed's entry to UP or WALKING is in order (R103). -/
theorem Feed.Lawful.rises {x : Feed} (h : x.Lawful) (hd : x.debounce.isSome = true) :
    Feed.OnLine { x with debounce := none, accepted := .healthy, rose := true } := by
  have raw := (h.debounced hd).2.1
  obtain ⟨-, -, -, ⟨-, -, -, -, -, admitted, passed, failed⟩, completed, ended, aborted⟩ := h
  exact ⟨rfl, raw, rfl, completed, ended, aborted, admitted, passed, failed⟩

theorem Sound.acceptHealthy (hd : (s.feed f).debounce.isSome = true) : Sound P [] [] s (s.acceptHealthy f) := by
  intro l
  obtain ⟨state, -, phase, kind, pause⟩ := (l f).debounced hd
  have rises := (l f).rises hd
  have risen : ∀ ev : Event, Kept P [] [] s
      ((s.modFeed f (fun x => { x with debounce := none, accepted := .healthy, rose := true })).post ev) := fun ev =>
    (Kept.modFeed_of_state rfl rfl).trans (Calm.post _ ev).kept
  have others : ∀ ev (goes : FState) g, g ≠ f →
      ((((s.modFeed f (fun x => { x with debounce := none, accepted := .healthy, rose := true })).post ev).modFeed f
        (fun x => { x with state := goes })).feed g).Lawful := fun ev goes g hg => by
    simpa [State.feed_modFeed, hg] using l g
  unfold State.acceptHealthy
  dsimp only
  split
  case isTrue empty =>
    have lit : ∀ d, s.feedOfDistrict d = f → (s.district d).state ≠ .dark := fun d on dark => by
      rw [List.isEmpty_iff] at empty
      exact List.not_mem_nil (empty ▸ (s.mem_inState f .dark d).2 ⟨on, dark⟩)
    refine ⟨fun g => ?_, (risen _).trans (.modFeed (by simp) (fun _ => lit) fun c k => ?_)⟩
    · by_cases hg : g = f
      · subst hg
        simp only [State.feed_modFeed_same, State.post_feed]
        exact Feed.OnLine.lawful rises.of_same (by simp) (by simp [phase]) (by simp [phase, kind]) (by simp [phase])
          (by simp [phase]) (by simp [pause])
      · exact others _ _ g hg
    · obtain ⟨g, walked⟩ := c k
      have hg : g ≠ f := by
        rintro rfl
        simp [state] at walked
      exact ⟨g, by simpa [State.feed_modFeed, hg] using walked⟩
  case isFalse =>
    refine Kept.startWalk ((risen _).trans (.modFeed (by simp) (by simp) fun _ => ?_)) ?_ (by simp) ?_ (others _ _) _ _
    · exact .of_walking (f := f) (by simp)
    · simp only [State.feed_modFeed_same, State.post_feed]
      exact rises.of_same
    · simpa [State.walk] using pause

/-! ## Walk commands and the pause (R116, R130, R134 to R137) -/

theorem Sound.pauseExpires (s : State) (f : FeedId) : Sound P [] [] s (s.pauseExpires f) := by
  unfold State.pauseExpires
  split
  case isTrue due =>
    refine Rests.sound (f := f) fun l => ?_
    obtain ⟨-, -, -, ⟨-, kind, pausing, -⟩, -⟩ := l f
    have phase : (s.feed f).walk.phase = .pausing := due.1
    have walking := pausing phase
    have ready : Ready f s (s.modWalk f (fun w => { w with pause := none })) :=
      ⟨(OnWay.mk (.refl f s) ((l f).onLine (by simp [walking]))).modWalk, by simpa using walking,
        fun k => by simpa [phase] using kind.1 (by simpa [State.walk] using k), by simp⟩
    exact ready.followLink
  case isFalse => exact .refl s

theorem Sound.haltRule (p : Port) (f : FeedId) (s : State) : Sound P [] [] s (haltRule p f s).1 := by
  unfold Machine.haltRule
  split
  case isTrue walking =>
    exact Rests.sound (f := f) fun l => ((Underway.begin (l f) (.inl walking)).haltWalk walking _ _).rests
  case isFalse => exact .refl s

theorem Sound.endRule (p : Port) (f : FeedId) (s : State) : Sound P [] [] s (endRule p f s).1 := by
  unfold Machine.endRule
  split
  case isTrue walked => exact Rests.sound (f := f) fun l => (Underway.begin (l f) walked).toOnWay.endWalk _ _
  case isFalse => exact .refl s

theorem Sound.resumeRule (p : Port) (f : FeedId) (s : State) : Sound P [] [] s (resumeRule p f s).1 := by
  unfold Machine.resumeRule
  split
  case isTrue halted => exact Rests.sound (f := f) fun l => (Underway.begin (l f) (.inr halted)).resumeWalk halted p
  case isFalse => exact .refl s

theorem Sound.clearErrorsRule (f : FeedId) (s : State) : Sound P [] [] s (clearErrorsRule f s).1 :=
  Sound.modFeed (g := fun x => { x with walk := x.walk.clearErrors }) fun l => l

theorem Feed.walk_of_core {x y : Feed} (h : y.core = x.core) : y.walk = x.walk :=
  show y.core.walk = x.core.walk by rw [h]

/-- CYCLE-FEED on a feed without a soak: its districts in service are DARK, and it is WALKING (R116). -/
def State.cycleBegun (s : State) (f : FeedId) : State :=
  ((s.toDarken f).foldl (State.darken f) s).modFeed f (fun x => { x with state := .walking })

theorem State.cycle_eq (s : State) (p : Port) (f : FeedId) :
    s.cycle p f = ((s.toDarken f).foldl State.deferredCopy (s.cycleBegun f)).startWalk f (.port p) 2 := rfl

/-- The copies of the darkened districts and that of a feed whose soaks are over apart, the beginning of CYCLE-FEED
keeps the laws. -/
theorem Kept.cycleBegun (none : s.inState f .soaking = []) : Kept P (s.toDarken f) [] s (s.cycleBegun f) := by
  have dims := Dims.darkenAll f (s.toDarken f) s
  unfold State.cycleBegun
  generalize (s.toDarken f).foldl (State.darken f) s = u at dims ⊢
  have feed : ∀ {g}, g ≠ f → ((u.modFeed f (fun x => { x with state := .walking })).feed g).core = (s.feed g).core ∧
      ((u.modFeed f (fun x => { x with state := .walking })).feed g).applyDeferred = (s.feed g).applyDeferred :=
    fun {g} hg => by
      rw [State.feed_modFeed, if_neg hg]
      exact ⟨dims.core g, dims.deferred g⟩
  refine ⟨fun {d} l => ?_, fun {d} hd l => ?_, fun _ {g} _ l k => ?_, fun _ => .of_walking (f := f) (by simp)⟩
  · rw [State.DarkAt, State.modFeed_district, show (u.modFeed f _).feedOfDistrict d = s.feedOfDistrict d from dims.on d]
    by_cases own : s.feedOfDistrict d = f
    · simp [own]
    · rw [Feed.state_of_core (feed own).1, dims.others own]
      exact l
  · rw [State.WaitsAt, State.modFeed_district, dims.states, if_neg hd, dims.flags]
    exact l
  · have waits : (s.feed g).applyDeferred = true := by
      by_cases hg : g = f
      · subst hg
        rw [State.feed_modFeed_same] at k
        exact (dims.deferred g).symm.trans k
      · rwa [(feed hg).2] at k
    obtain ⟨d, on, soaks⟩ := l waits
    have other : s.feedOfDistrict d ≠ f := fun own =>
      List.not_mem_nil (none ▸ (s.mem_inState f .soaking d).2 ⟨own, soaks⟩)
    exact ⟨d, (dims.on d).trans on, (dims.others other).trans soaks⟩

/-- The waiting copies of the darkened districts have had their turn (R89, R116). -/
theorem Kept.cycleCopied (none : s.inState f .soaking = []) :
    Kept P [] [] s ((s.toDarken f).foldl State.deferredCopy (s.cycleBegun f)) := by
  have begun := Kept.cycleBegun (P := P) none
  have copies := Calm.foldl Calm.deferredCopy (s.toDarken f) (s.cycleBegun f)
  have kept : Kept P [] [] (s.cycleBegun f) _ := copies.kept
  refine ⟨fun d => kept.dark (begun.dark d), fun {d} _ w => ?_,
    fun p {g} hg w => kept.feedWaits p hg (begun.feedWaits p hg w), fun c => kept.chains (begun.chains c)⟩
  by_cases hd : d ∈ s.toDarken f
  · exact State.deferredCopies_waitsAt hd _
  · exact copies.waits (begun.waits hd w)

theorem Sound.cycleRule (p : Port) (f : FeedId) (s : State) : Sound P [] [] s (cycleRule p f s).1 := by
  unfold Machine.cycleRule
  split
  case isFalse => exact .refl s
  case isTrue ready =>
    obtain ⟨up, none⟩ := ready
    rw [List.isEmpty_iff] at none
    intro l
    have copies := Calm.foldl Calm.deferredCopy (s.toDarken f) (s.cycleBegun f)
    have core : ∀ g, (((s.toDarken f).foldl State.deferredCopy (s.cycleBegun f)).feed g).core =
        if g = f then { s.feed f with state := .walking }.core else (s.feed g).core := fun g => by
      have dims := (Dims.darkenAll f (s.toDarken f) s).core g
      rw [copies.core, State.cycleBegun, State.feed_modFeed]
      split
      · subst g
        exact congrArg (fun x : Feed => { x with state := .walking }) dims
      · exact dims
    have line := (l f).onLine (by simp [up])
    obtain ⟨-, -, -, ⟨idle, -, -, -, pause, -⟩, -⟩ := l f
    have own := (core f).trans (if_pos rfl)
    have walk : (((s.toDarken f).foldl State.deferredCopy (s.cycleBegun f)).feed f).walk = (s.feed f).walk :=
      Feed.walk_of_core (x := { s.feed f with state := .walking }) own
    have phase := idle.2 (.inr up)
    rw [State.cycle_eq]
    refine Kept.startWalk (.cycleCopied none) (.of_core own line.of_same) (Feed.state_of_core own) ?_ (fun g hg => ?_) _ _
    · rw [State.walk, walk, ← Option.not_isSome_iff_eq_none]
      exact fun k => by simp [pause k] at phase
    · exact Feed.lawful_of_core ((core g).trans (if_neg hg)) (l g)

end
end Sys2Proof.Machine
end

section
/-! # Every step keeps the feed laws, the dark law and the waiting law (O53, O54, O56) -/

namespace Sys2Proof.Machine

section
variable {P : Prop} {ws : List DistrictId} {fs : List FeedId} {s t : State}

/-! ## Requests and effects (R159) -/

theorem Sound.of_eq (hd : t.districts = s.districts) (hf : t.feeds = s.feeds)
    (hi : t.activeImage.districts = s.activeImage.districts)
    (hc : t.chainApplyWaiting = true → s.chainApplyWaiting = true) : Sound P ws fs s t :=
  (Calm.of_eq hd hf hi hc).sound

theorem Sound.whenRunning {act : State → State} (h : Sound P ws fs s (act s)) :
    Sound P ws fs s (s.whenRunning act) := by
  unfold State.whenRunning
  split
  · exact .refl s
  · exact h

theorem Sound.ite {c : Prop} [Decidable c] (h : c → Sound P ws fs s t) : Sound P ws fs s (if c then t else s) := by
  split
  case isTrue k => exact h k
  case isFalse => exact .refl s

theorem Calm.ite {ds : List DistrictId} {c : Prop} [Decidable c] (h : c → Calm ds s t) :
    Calm ds s (if c then t else s) := by
  split
  case isTrue k => exact h k
  case isFalse => exact .refl ds s

theorem Calm.takeRequest (s : State) (p : Port) : Calm [] s (s.takeRequest p) := .ite fun _ => .modPort s p _

/-- A request keeps the laws where its owner's effect does; what that rests on, that the records are lawful, holds at
the owner too. -/
theorem Sound.serve (i : Instr) {body : State → State × Reply} (l : P → s.RecordsLawful)
    (h : ∀ u, (P → u.RecordsLawful) → Sound P [] [] u (body u).1) : Sound P [] [] s (s.serve i body) := by
  have taken : ∀ p, Sound P [] [] s (s.takeRequest p) := fun p => (Calm.takeRequest s p).sound
  have lawful : ∀ p, P → (s.takeRequest p).RecordsLawful := fun p k d =>
    (StandsAt.takeRequest d s p).keeps.lawful (l k d)
  unfold State.serve
  split
  · exact .refl s
  · refine .whenRunning ?_
    split
    · exact .refl s
    · split
      · exact (Calm.modPort s _ _).sound
      · dsimp only
        split
        · exact (taken _).trans ((h _ (lawful _)).trans (Calm.modPort _ _ _).sound)
        · exact (taken _).trans (Calm.modPort _ _ _).sound

theorem Sound.feedCommand {act : FeedId → State → State × Reply} (h : ∀ f t, Sound P [] [] t (act f t).1)
    (number : Byte) (s : State) : Sound P [] [] s (feedCommand number act s).1 := by
  unfold Machine.feedCommand
  split
  · exact .refl s
  · exact h _ s

/-! ## Mask commands (R9 to R17) -/

/-- A mask command keeps the laws where its turn at one district does; what that rests on is kept too. -/
theorem Sound.maskCommand (p : Port) (c : Command) (mask : Half) {rule : DistrictId → State → State × Verdict}
    {Q : State → Prop} (h : ∀ d u, (P → Q u) → Sound P [] [] u (u.acted p c rule d))
    (k : ∀ d u, Q u → Q (u.acted p c rule d)) (q : P → Q s) : Sound P [] [] s (maskCommand p c mask rule s).1 := by
  have all : ∀ (ds : List DistrictId) (t : Tally), (P → Q t.state) →
      Sound P [] [] t.state (ds.foldl (Tally.step p c rule) t).state := by
    intro ds
    induction ds with
    | nil => exact fun t _ => .refl _
    | cons d ds ih =>
      intro t q
      have turn : (P → Q (Tally.step p c rule t d).state) ∧ Sound P [] [] t.state (Tally.step p c rule t d).state := by
        rw [Tally.step_eq]
        dsimp only
        split
        · exact ⟨fun hp => k d _ (q hp), h d _ q⟩
        · exact ⟨q, .refl _⟩
      exact turn.2.trans (ih _ turn.1)
  exact all (namedDistricts mask) { state := s, done := [], unchanged := [], refused := [] } q

theorem Calm.acted {p : Port} {c : Command} {rule : DistrictId → State → State × Verdict} {d : DistrictId}
    (h : Calm [] s (rule d s).1) : Calm [] s (s.acted p c rule d) :=
  h.trans ((Calm.post _ _).trans (.ite fun _ => .deferredCopy _ d))

/-- A mask command whose rule is calm. -/
theorem Sound.maskCommand_of_calm (p : Port) (c : Command) (mask : Half) {rule : DistrictId → State → State × Verdict}
    (h : ∀ d u, Calm [] u (rule d u).1) (s : State) : Sound P [] [] s (Machine.maskCommand p c mask rule s).1 :=
  .maskCommand p c mask (Q := fun _ => True) (fun d u _ => (Calm.acted (h d u)).sound) (fun _ _ => id) fun _ => trivial

theorem Calm.enableRule (d : DistrictId) (s : State) : Calm [] s (enableRule d s).1 := by
  unfold Machine.enableRule
  split
  case _ off =>
    split
    · exact (Calm.rewrites s d).trans (.returnToService (by simp [off, DState.defersApply]))
    · exact .refl _ s
  all_goals exact .refl _ s

theorem Calm.clearRule (d : DistrictId) (s : State) : Calm [] s (clearRule d s).1 := by
  unfold Machine.clearRule
  split
  case isTrue latched => exact (Calm.rewrites s d).trans (.returnToService (by simp [latched, DState.defersApply]))
  case isFalse => exact .refl _ s

theorem Calm.markRule {test : District → Bool} {g : District → District}
    (hg : ∀ r, (g r).state = r.state ∧ (g r).applyDeferred = r.applyDeferred) (d : DistrictId) (s : State) :
    Calm [] s (markRule test g d s).1 := by
  unfold Machine.markRule
  split
  · exact .rewrites s d (hg _).1 (hg _).2
  · exact .refl _ s

/-- RELEASE, MARK-SEEN and RESET-STATS rewrite what no law here speaks of (R13, R16, R17). -/
theorem Sound.markCommand (p : Port) (c : Command) (mask : Half) {test : District → Bool} {g : District → District}
    (s : State) (hg : ∀ r, (g r).state = r.state ∧ (g r).applyDeferred = r.applyDeferred) :
    Sound P [] [] s (Machine.maskCommand p c mask (Machine.markRule test g) s).1 :=
  .maskCommand_of_calm p c mask (Calm.markRule hg) s

/-- DISABLE and HOLD: the district goes to OFF, and its waiting copy has its turn (R11, R12, R150). -/
theorem Sound.actedOff {p : Port} {c : Command} {rule : DistrictId → State → State × Verdict} {d : DistrictId}
    (h : Sound P [d] [] s (rule d s).1) (hc : c = .disable ∨ c = .hold) : Sound P [] [] s (s.acted p c rule d) := by
  rw [State.acted, State.copyAfter, if_pos hc]
  exact (h.trans (Calm.post _ _).sound).deferredCopy

theorem Sound.disableRule (d : DistrictId) (l : P → s.RecordsLawful) : Sound P [d] [] s (disableRule d s).1 := by
  unfold Machine.disableRule
  split
  · exact .refl s
  · exact .toOff fun p => ((l p) d).soak_iff.2

theorem Sound.holdRule (q : Port) (d : DistrictId) (l : P → s.RecordsLawful) :
    Sound P [d] [] s (holdRule q d s).1 := by
  have marked := Calm.rewrites s d (g := fun r => { r with holds := r.holds.put true q })
  unfold Machine.holdRule
  split
  · exact .refl s
  · dsimp only
    split
    · exact marked.sound
    · refine marked.sound.trans (.toOff fun p soaks => ?_)
      rw [State.district_modDistrict_same] at soaks ⊢
      exact ((l p) d).soak_iff.2 soaks

theorem State.RecordsLawful.actedOff {p : Port} {c : Command} {rule : DistrictId → State → State × Verdict}
    (h : ∀ e d u, KeepsAt e u (rule d u).1) (d : DistrictId) (u : State) (l : u.RecordsLawful) :
    (u.acted p c rule d).RecordsLawful := fun e => by
  have posted : KeepsAt e u ((rule d u).1.postCommandState p c d) := (h e d u).trans (.of_eq rfl rfl)
  unfold State.acted State.copyAfter
  split
  · exact (posted.trans (.deferredCopy e _ d)).lawful (l e)
  · exact posted.lawful (l e)

/-! ## APPLY and APPLY-CHAINS (R115, R148 to R154) -/

theorem Calm.applyDistrict (p : Port) (named : Half) (t : ApplyTally) (d : DistrictId) :
    Calm [] t.state (t.district p named d).state := by
  have corrected := Calm.correct t.state named (.port p) d
  unfold ApplyTally.district
  dsimp only
  split
  case isTrue defers =>
    refine corrected.trans ?_
    dsimp only
    exact .modDistrict (.inl rfl) id fun _ _ => defers
  case isFalse free => exact corrected.trans (.copyDistrict (Bool.eq_false_iff.2 free))

/-- A deferred feed has a SOAKING district (R115). -/
theorem Calm.applyFeed (t : ApplyTally) (f : FeedId) : Calm [] t.state (t.feed f).state := by
  unfold ApplyTally.feed
  split
  · exact .copyFeed _ f
  case isFalse busy =>
    rw [List.isEmpty_iff] at busy
    obtain ⟨d, hd⟩ := List.exists_mem_of_ne_nil _ busy
    have core : ∀ g, ((t.state.modFeed f (fun x => { x with applyDeferred := true })).feed g).core =
        (t.state.feed g).core := fun g => by
      rw [State.feed_modFeed]
      split
      · subst g; rfl
      · rfl
    refine ⟨core, fun {e} _ l => ?_, id, fun {g} l k => ?_, id⟩
    · rw [State.DarkAt, Feed.state_of_core (core _)]; exact l
    · by_cases hg : g = f
      · exact ⟨d, hg ▸ (t.state.mem_inState f .soaking d).1 hd⟩
      · rw [State.feed_modFeed, if_neg hg] at k
        exact l k

theorem Calm.applySettings (p : Port) (districts : Half) (feeds : Byte) (s : State) :
    Calm [] s (State.applySettings p districts feeds s).1 := by
  have each : ∀ (ds : List DistrictId) (t : ApplyTally),
      Calm [] t.state (ds.foldl (ApplyTally.district p districts) t).state := by
    intro ds
    induction ds with
    | nil => exact fun t => .refl _ _
    | cons d ds ih => exact fun t => (Calm.applyDistrict p districts t d).trans (ih _)
  have feedwise : ∀ (gs : List FeedId) (t : ApplyTally), Calm [] t.state (gs.foldl ApplyTally.feed t).state := by
    intro gs
    induction gs with
    | nil => exact fun t => .refl _ _
    | cons f gs ih => exact fun t => (Calm.applyFeed t f).trans (ih _)
  unfold State.applySettings
  split
  · exact .refl _ s
  · have applied := (each (namedDistricts districts) (State.applyBegun s)).trans (feedwise (namedFeeds feeds) _)
    dsimp only
    split
    · exact applied
    · exact applied.trans (.post _ _)

/-- APPLY-CHAINS waits only for a walk (R154). -/
theorem Sound.applyChains (p : Port) (s : State) : Sound P [] [] s (State.applyChains p s).1 := by
  unfold State.applyChains
  split
  case isTrue walks =>
    refine fun l => ⟨l, fun {d} => id, fun {d} _ => id, fun _ {f} _ => id, fun _ _ => ?_⟩
    simp only [State.anyWalk, List.any_eq_true, Bool.or_eq_true, beq_iff_eq] at walks
    obtain ⟨f, -, walked⟩ := walks
    exact ⟨f, walked⟩
  case isFalse => exact .of_eq rfl rfl rfl (by simp [State.copyChains])

theorem Calm.takeSnapshot (p : Port) (keep : Bool) (s : State) : Calm [] s (State.takeSnapshot p keep s).1 := by
  refine .of_same (fun d => ?_) (fun d => ?_) (fun _ => rfl) (fun f => ?_) (fun f => ?_) id
  · rw [State.takeSnapshot_district]; split <;> rfl
  · rw [State.takeSnapshot_district]; split <;> rfl
  · rw [State.takeSnapshot_feed]; split <;> rfl
  · rw [State.takeSnapshot_feed]; split <;> exact id

/-! ## District timers, starts and time (R5, R8, R20, R49, R83, R172) -/

theorem Calm.coolDownExpires (s : State) (d : DistrictId) : Calm [] s (s.coolDownExpires d) :=
  .ite fun due => .join _ (by rw [due.1]; rfl) (by rw [due.1]; rfl)

theorem Calm.settleExpires (s : State) (d : DistrictId) : Calm [] s (s.settleExpires d) :=
  .ite fun _ => (Calm.rewrites s d).trans (.post _ _)

theorem Calm.deadTimeExpires (s : State) (d : DistrictId) : Calm [] s (s.deadTimeExpires d) :=
  .ite fun due => .modDistrict (.inr (.inr (.inr ⟨by rw [due.1]; rfl, by simp⟩))) (by simp [due.1]) fun _ _ => rfl

/-- The record of a feed after reset is lawful (R97, R98). -/
theorem resetFeed_lawful (level : Level) (time : Nat) : (resetFeed level time).Lawful := by
  cases level <;> simp [resetFeed, resetWalk, zeroCounter, Feed.Lawful, Walk.Lawful]

/-- A start brings every law about, whatever was before: feeds are DOWN, districts OFF or DARK, and no copy waits
(R8, R172). -/
theorem Sound.startUp (s : State) (pin : Bool) (pins : StartPins) : Sound P ws fs s (s.startUp pin pins) := by
  have feed : ∀ f, (s.startUp pin pins).feed f =
      resetFeed (faultInput pins f) (s.nv.cutOff.loaded.feed f).debounce := fun f => by
    simp [State.startUp, State.post, State.cleared, State.feed]
  have district := s.startUp_district pin pins
  refine fun _ => ⟨fun f => by rw [feed]; exact resetFeed_lawful _ _, fun {d} _ => ⟨fun _ => ?_, fun up => ?_⟩,
    fun {d} _ _ waits => ?_, fun _ {f} _ _ waits => ?_, fun _ waits => ?_⟩
  · rw [district, resetDistrict, startState]; split <;> rfl
  · simp [feed, resetFeed] at up
  · simp [district, resetDistrict] at waits
  · simp [feed, resetFeed] at waits
  · simp [State.startUp, State.post, State.cleared] at waits

theorem Feed.Lawful.tick {x : Feed} (h : x.Lawful) : x.tick.Lawful := by
  obtain ⟨down, line, debounce, ⟨idle, kind, pausing, held, pause, figures⟩, counts⟩ := h
  exact ⟨down, line, by simpa [Feed.tick, Timer.tick] using debounce, ⟨idle, kind, pausing, held,
    by simpa [Feed.tick, Timer.tick] using pause, figures⟩, counts⟩

theorem Sound.tick (s : State) : Sound P ws fs s s.tick := by
  have feed : ∀ f, s.tick.feed f = (s.feed f).tick := fun f => by simp [State.tick, State.feed]
  have district : ∀ d, s.tick.district d = (s.district d).tick := fun d => by simp [State.tick, State.district]
  refine fun l => ⟨fun f => by rw [feed]; exact (l f).tick, .of_same (fun d => ?_) (fun d => ?_) (fun _ => rfl)
    (fun f => ?_) (fun f => ?_) rfl⟩
  · rw [district]; rfl
  · rw [district]; rfl
  · rw [feed]; rfl
  · rw [feed]; rfl

/-! ## Every command, every step -/

/-- Every command keeps the laws, from lawful records where the waiting law of the feeds is concerned. -/
theorem Sound.exec (l : P → s.RecordsLawful) (c : Instr) (hc : exec c s = .next t) : Sound P [] [] s t := by
  have served : ∀ (i : Instr) {body : State → State × Reply}, (∀ u, Calm [] u (body u).1) →
      Sound P [] [] s (s.serve i body) := fun i _ h => .serve i l fun u _ => (h u).sound
  have named : ∀ (i : Instr) {act : FeedId → State → State × Reply} (n : Byte),
      (∀ f u, Sound P [] [] u (act f u).1) → Sound P [] [] s (s.serve i (Machine.feedCommand n act)) :=
    fun i _ n h => .serve i l fun u _ => Sound.feedCommand h n u
  cases c with
  | powerOn pins | resetPin pins => cases hc; exact .startUp s _ pins
  | sampleArrival d level => cases hc; exact .whenRunning (.takeSample s d _)
  | coolDownExpiry d => cases hc; exact .whenRunning (Calm.coolDownExpires s d).sound
  | settleExpiry d => cases hc; exact .whenRunning (Calm.settleExpires s d).sound
  | deadTimeExpiry d => cases hc; exact .whenRunning (Calm.deadTimeExpires s d).sound
  | lineChange f level => cases hc; exact .whenRunning (.lineChanges s f level)
  | debounceExpiry f => cases hc; exact .whenRunning (.ite fun due => .acceptHealthy (by rw [due]; rfl))
  | pauseExpiry f => cases hc; exact .whenRunning (.pauseExpires s f)
  | lingerExpiry p | interByteTimeout p | responseEnd p =>
    cases hc; exact .whenRunning (.ite fun _ => (Calm.modPort s p _).sound)
  | rxByte p b stopBit => cases hc; exact .whenRunning (Calm.modPort s p _).sound
  | storeWriteEnd matched =>
    cases hc
    refine .whenRunning ?_
    unfold State.writeEnds
    split <;> exact .of_eq rfl rfl rfl id
  | readDistrict p n | readDistrictStats p n | readFeed p n | readQueue p n | readSettings p k n i
  | readChainEntry p n i | readSnapshot p n => cases hc; exact served _ fun u => .refl _ u
  | readEvents p n =>
    cases hc
    refine served _ fun u => ?_
    unfold State.readEvents
    split <;> exact .of_eq rfl rfl rfl id
  | readPortStatus p o =>
    cases hc
    refine served _ fun u => ?_
    unfold State.readPortStatus
    split
    · exact .refl _ u
    · split <;> exact .of_eq rfl rfl rfl id
  | setAttention p tr lg =>
    cases hc
    refine served _ fun u => ?_
    unfold State.setAttention
    split <;> exact .of_eq rfl rfl rfl id
  | enable p m => cases hc; exact .serve _ l fun u _ => Sound.maskCommand_of_calm p _ m Calm.enableRule u
  | clear p m => cases hc; exact .serve _ l fun u _ => Sound.maskCommand_of_calm p _ m Calm.clearRule u
  | disable p m =>
    cases hc
    exact .serve _ l fun u k => .maskCommand p _ m (Q := State.RecordsLawful)
      (fun d _ k => Sound.actedOff (.disableRule d k) (by simp)) (.actedOff .disableRule) k
  | hold p m =>
    cases hc
    exact .serve _ l fun u k => .maskCommand p _ m (Q := State.RecordsLawful)
      (fun d _ k => Sound.actedOff (.holdRule p d k) (by simp)) (.actedOff fun e => .holdRule e p) k
  | release p m =>
    cases hc
    rw [releaseRule_eq]
    exact .serve _ l fun u _ => Sound.markCommand p _ m u fun _ => ⟨rfl, rfl⟩
  | releaseForeign p m n =>
    cases hc
    refine .serve _ l fun u _ => ?_
    unfold Machine.releaseForeign
    split
    · exact .refl u
    · rw [releaseRule_eq]
      exact Sound.markCommand p _ m u fun _ => ⟨rfl, rfl⟩
  | markSeen p m =>
    cases hc
    rw [markSeenRule_eq]
    exact .serve _ l fun u _ => Sound.markCommand p _ m u fun _ => ⟨rfl, rfl⟩
  | resetStats p m =>
    cases hc
    rw [resetStatsRule_eq]
    exact .serve _ l fun u _ => Sound.markCommand p _ m u fun _ => ⟨rfl, rfl⟩
  | snapshot p | snapshotKeep p => cases hc; exact served _ (.takeSnapshot p _)
  | setDistrict p n k v =>
    cases hc
    refine served _ fun u => ?_
    unfold State.writeDistrict
    split
    · exact .refl _ u
    · split <;> exact .of_eq rfl rfl rfl id
  | setFeed p n k v =>
    cases hc
    refine served _ fun u => ?_
    unfold State.writeFeed
    split
    · exact .refl _ u
    · split <;> exact .of_eq rfl rfl rfl id
  | setChainEntry p i en =>
    cases hc
    refine served _ fun u => ?_
    unfold State.writeChainEntry
    split <;> exact .of_eq rfl rfl rfl id
  | apply p ds gs => cases hc; exact served _ (.applySettings p ds gs)
  | applyChains p => cases hc; exact .serve _ l fun u _ => .applyChains p u
  | save p =>
    cases hc
    refine served _ fun u => ?_
    unfold State.saveStarts
    split <;> exact .of_eq rfl rfl rfl id
  | cycleFeed p n => cases hc; exact named _ n (.cycleRule p)
  | haltWalk p n => cases hc; exact named _ n (.haltRule p)
  | resumeWalk p n => cases hc; exact named _ n (.resumeRule p)
  | endWalk p n => cases hc; exact named _ n (.endRule p)
  | clearWalkErrors p n => cases hc; exact named _ n .clearErrorsRule
  | resetAsserted => cases hc; exact .of_eq rfl rfl rfl id

/-- A command from the queue, one that is due, or a millisecond. -/
theorem Sound.step (l : P → s.RecordsLawful) (hs : step s = .next t) : Sound P [] [] s t := by
  unfold Machine.step at hs
  split at hs
  case _ rest _ =>
    have popped : Calm [] s { s with pending := rest } := .of_eq rfl rfl rfl id
    exact popped.sound.trans (.exec (s := { s with pending := rest }) l _ hs)
  · split at hs
    · exact .exec l _ hs
    · cases hs
      exact .whenRunning (.tick s)

end

/-- Settles O53: each command keeps the feed records lawful, the walk by the states it passes through within an event
(`Ready`, `Underway`, `Rests`). -/
theorem everyStepKeepsTheFeedLaws : Obligations.EveryStepKeepsTheFeedLaws := by
  intro s t lawful hs
  exact (Sound.step (P := False) False.elim hs lawful).1

/-- Settles O54: the dark law holds district by district; a feed that comes UP has queued or latched its DARK
districts, one that goes DOWN has darkened those in service. -/
theorem everyStepKeepsTheDarkLaw : Obligations.EveryStepKeepsTheDarkLaw := by
  intro s t lawful dark hs
  rw [State.darkLaw_iff] at dark ⊢
  exact fun d => (Sound.step (P := False) False.elim hs lawful).2.dark (dark d)

/-- Settles O56: a copy that loses its reason has its turn in the same event. -/
theorem everyStepKeepsTheWaitingLaw : Obligations.EveryStepKeepsTheWaitingLaw := by
  intro s t records lawful waiting hs
  rw [State.waitingLaw_iff] at waiting ⊢
  obtain ⟨districts, feeds, chains⟩ := waiting
  have kept := (Sound.step (P := True) (fun _ d => (records d).1) hs lawful).2
  exact ⟨fun d => kept.waits (by simp) (districts d), fun f => kept.feedWaits trivial (by simp) (feeds f),
    kept.chains chains⟩

end Sys2Proof.Machine
end

section
/-! # A rising fault line, and the reads of the feeds (R98, R102 to R104, R118, R119, R143) -/

namespace Sys2Proof.Machine

/-! ## Changes of one feed's record (R96) -/

/-- Two changes of one feed's record, with an event between them, are one change. -/
theorem State.modFeed_post_modFeed (s : State) (f : FeedId) (g k : Feed → Feed) (ev : Event) :
    ((s.modFeed f g).post ev).modFeed f k = (s.modFeed f (fun x => k (g x))).post ev := by
  simp [State.modFeed, State.setFeed, State.post, State.feed]

/-- A feed without a DARK district is UP as soon as its HEALTHY level is accepted (R103, R104). -/
theorem State.acceptHealthy_of_lit {s : State} {f : FeedId}
    (lit : ∀ d, s.feedOfDistrict d = f → (s.district d).state ≠ .dark) :
    s.acceptHealthy f = (s.modFeed f (fun x =>
      { x with debounce := none, accepted := .healthy, rose := true, state := .up })).post
        { kind := .feedUp, subject := .feed f, origin := .device, detail := 3, value := 0 } := by
  have empty : s.inState f .dark = [] := List.eq_nil_iff_forall_not_mem.2 fun d hd => by
    obtain ⟨on, dark⟩ := (s.mem_inState f .dark d).1 hd
    exact lit d on dark
  unfold State.acceptHealthy
  simp only [empty, List.isEmpty_nil, if_true]
  rw [State.modFeed_post_modFeed]
  rfl

/-- Settles O30: the line's level decides which branch of `State.lineChanges` is taken, and the expiry of a feed
without DARK districts ends before any walk. -/
theorem aRisingLineIsDebouncedAndAccepted : Obligations.ARisingLineIsDebouncedAndAccepted := by
  refine ⟨fun s f g h => ⟨fun e => s.feed_modFeed f e g, rfl, rfl, rfl, rfl⟩, fun f s running => ?_⟩
  have line : ∀ level, exec (.lineChange f level) s = .next (s.lineChanges f level) := fun level =>
    congrArg _ (State.whenRunning_of_running running _)
  have expiry : exec (.debounceExpiry f) s =
      .next (if (s.feed f).debounce = some 0 then s.acceptHealthy f else s) :=
    congrArg _ (State.whenRunning_of_running running _)
  refine ⟨fun level same => ?_, fun accepted raw => ?_, fun accepted raw => ?_, fun idle => ?_, fun due lit => ?_⟩
  · rw [line]; unfold State.lineChanges; rw [if_pos same]
  · rw [line]; unfold State.lineChanges; rw [if_neg (by simp [raw])]
    simp [State.modFeed, accepted]
  · rw [line]; unfold State.lineChanges; rw [if_neg (by simp [raw])]
    simp [accepted]
  · rw [expiry, if_neg idle]
  · rw [expiry, if_pos due, State.acceptHealthy_of_lit lit]

/-! ## The reads of the feeds (R118, R119, R143) -/

theorem feedOf_byteOf (f : FeedId) : feedOf (byteOf f.val) = some f := by revert f; decide

theorem Feed.flags_eq (x : Feed) :
    x.flags = flagsNumber [decide (x.accepted = .healthy), decide (x.raw = .healthy), x.fell, x.rose,
      x.applyDeferred] := by
  simp only [Feed.flags, flagsNumber, bit, beq_iff_eq, decide_eq_true_eq]
  omega

theorem Walk.flags_eq (w : Walk) :
    w.flags = flagsNumber [w.linkError, w.foreignMember, w.memberFailed, w.waiting, w.entryAdmitted] := by
  simp only [Walk.flags, flagsNumber, bit]
  omega

theorem Feed.rollFlags_eq (x : Feed) :
    x.rollFlags = flagsNumber [x.completed.rolled, x.ended.rolled, x.abortedWalks.rolled] := by
  simp only [Feed.rollFlags, flagsNumber, bit]
  omega

theorem State.soaking_eq (s : State) (f : FeedId) :
    s.inState f .soaking = allDistricts.filter (fun d =>
      decide (s.feedOfDistrict d = f ∧ (s.district d).state = .soaking)) := by
  rw [State.inState, State.districtsOf, List.filter_filter]
  congr 1
  funext d
  simp [Bool.and_comm, beq_eq_decide]

theorem Position.readByte_eq (pos : Position) :
    byteOf pos.readCode = match pos with
      | .nowhere => 0xFF
      | .entry e => byteOf e.val
      | .district d => byteOf d.val := by cases pos <;> rfl

/-- Settles O38: both reads answer the record, byte by byte. -/
theorem feedReadsAnswerTheRecord : Obligations.FeedReadsAnswerTheRecord := by
  refine ⟨by decide, fun p f s x w hx hw => ⟨fun may => ?_, fun may => ?_⟩⟩
  · subst hw hx
    show Host.Outcome.next (s.serve (.readFeed p (byteOf f.val)) _) = _
    rw [may.serve rfl]
    simp only [feedOf_byteOf, Option.map_some, readReply, State.feedSection, Feed.walkSection, Feed.flags_eq,
      Walk.flags_eq, Feed.rollFlags_eq, State.soaking_eq, Position.readByte_eq, timerMs, List.append_assoc]
    rfl
  · subst hw hx
    show Host.Outcome.next (s.serve (.readQueue p (byteOf f.val)) _) = _
    rw [may.serve rfl]
    simp only [feedOf_byteOf, Option.map_some, readReply, State.queueBytes]
    rfl

end Sys2Proof.Machine
end

section
/-! # APPLY of one feed, and APPLY-CHAINS (R115, R148, R153, R154) -/

namespace Sys2Proof.Machine

section
variable {feeds : Byte} {f : FeedId} (hf : feeds = 1 <<< f.val)
include hf

/-- The mask of one feed names that feed alone. -/
theorem namedFeeds_single : namedFeeds feeds = [f] := by subst hf; revert f; decide

theorem feedByte_single_bounds : feeds.toNat ≤ 15 ∧ feeds ≠ 0 := by subst hf; revert f; decide

/-- One feed in the last byte of the answer: copied in the low half, deferred in the high one (R148). -/
theorem feedByte_single : byteOf (feedMask [f] + 16 * feedMask []) = feeds ∧
    byteOf (feedMask [] + 16 * feedMask [f]) = feeds <<< 4 := by subst hf; revert f; decide

/-- The tally of an APPLY that names one feed. -/
theorem State.appliedFeeds_feed (s : State) (p : Port) : s.appliedFeeds p 0 feeds = s.applyBegun.feed f := by
  have none : namedDistricts 0 = [] := by decide
  rw [State.appliedFeeds, State.appliedDistricts, namedFeeds_single hf, none]
  rfl

/-- APPLY of one feed: it is copied, or deferred where it has a SOAKING district (R115, R153). -/
theorem exec_apply_feed {p : Port} {s : State} (may : s.MayRequest p .apply) :
    exec (.apply p 0 feeds) s = .next
      (((s.applyBegun.feed f).state.post (settingsApplied p 0 feeds)).respond p 0x33
        { status := .ok
          data := [0, 0, 0, 0, 0, 0, if (s.inState f .soaking).isEmpty = true then feeds else feeds <<< 4] }) := by
  have served : exec (.apply p 0 feeds) s = .next (s.serve (.apply p 0 feeds) (State.applySettings p 0 feeds)) := rfl
  obtain ⟨small, named⟩ := feedByte_single_bounds hf
  obtain ⟨copied, deferred⟩ := feedByte_single hf
  rw [served, may.serve rfl, State.applySettings_eq _ _ _ small, State.applied, if_neg fun k => named k.2,
    State.appliedFeeds_feed hf]
  refine congrArg _ (congrArg₂ (fun t r => State.respond t p 0x33 r) rfl ?_)
  unfold ApplyTally.feed
  have begun : s.applyBegun.state = s := rfl
  rw [begun]
  split
  · simp only [State.applyBegun, List.nil_append, copied]
    rfl
  · simp only [State.applyBegun, List.nil_append, deferred]
    rfl

end

theorem State.anyWalk_eq_true_iff (s : State) :
    s.anyWalk = true ↔ ∃ f, (s.feed f).state = .walking ∨ (s.feed f).state = .walkHalted := by
  have all : ∀ f : FeedId, f ∈ allFeeds := by decide
  simp [State.anyWalk, all]

/-- Settles O50: a feed by whether a district of it is SOAKING, the chain table by whether a feed walks. -/
theorem feedsAndChainsApplyAtOnceOrWait : Obligations.FeedsAndChainsApplyAtOnceOrWait := by
  refine fun p s => ⟨fun may f feeds hf => ⟨fun free u hu hs rest grants => ?_, fun busy => ?_⟩, fun may =>
    ⟨fun rests => ?_, fun walks => ?_⟩⟩
  · have empty : (s.inState f .soaking).isEmpty = true := List.isEmpty_iff.2 <| List.eq_nil_iff_forall_not_mem.2
      fun d hd => by
        obtain ⟨on, soaks⟩ := (s.mem_inState f .soaking d).1 hd
        exact free d on soaks
    have copied : (s.applyBegun.feed f).state = u.runGrantRule f := by
      rw [hu, ApplyTally.feed, if_pos (show (s.applyBegun.state.inState f .soaking).isEmpty = true from empty)]
      rfl
    rw [exec_apply_feed hf may, if_pos empty, copied, State.runGrantRule_eq_withGranted grants]
    rfl
  · obtain ⟨d, hd⟩ := busy
    have some : ¬(s.inState f .soaking).isEmpty = true := fun k =>
      List.not_mem_nil (List.isEmpty_iff.1 k ▸ (s.mem_inState f .soaking d).2 hd)
    have deferred : (s.applyBegun.feed f).state = s.modFeed f (fun x => { x with applyDeferred := true }) := by
      rw [ApplyTally.feed, if_neg (show ¬(s.applyBegun.state.inState f .soaking).isEmpty = true from some)]
      rfl
    rw [exec_apply_feed hf may, if_neg some, deferred]
    rfl
  · have served : exec (.applyChains p) s = .next (s.serve (.applyChains p) (State.applyChains p)) := rfl
    have none : ¬s.anyWalk = true := fun k => by
      obtain ⟨f, walked⟩ := s.anyWalk_eq_true_iff.1 k
      exact walked.elim (rests f).1 (rests f).2
    rw [served, may.serve rfl, State.applyChains, if_neg none]
    rfl
  · have served : exec (.applyChains p) s = .next (s.serve (.applyChains p) (State.applyChains p)) := rfl
    rw [served, may.serve rfl, State.applyChains, if_pos (s.anyWalk_eq_true_iff.2 walks)]
    rfl

end Sys2Proof.Machine
end

section
/-! # Walk counters out of their range refute O31 and O34 (R139, R140, R141)

Both statements ask for lawful district records, and not for lawful feed records (`Feed.Lawful`), which keep the walk
counters within R141's range. Above 255 the model's counter goes on counting, where `Counter.oneMore` has it roll
over. -/

namespace Sys2Proof.Machine

/-- Feed 0 is WALKING with a HEALTHY line, all its districts are OFF and its queue is empty; the counters of ended and
aborted walks are out of their range. -/
def overcountedWalk : State :=
  State.reset.modFeed 0 (fun x =>
    { x with
      state := .walking, raw := .healthy, accepted := .healthy, debounce := none
      ended := { count := 300, rolled := false }, abortedWalks := { count := 300, rolled := false } })

/-- END_WALK of feed 0 as the part does it: the counter of ended walks goes on from 300. -/
theorem overcountedWalk_ends {t : State} {reply : Reply}
    (h : exec (.endWalk .b (byteOf 0)) overcountedWalk = .next (t.respond .b 0x39 reply)) :
    (t.feed 0).ended = { count := 301, rolled := false } := by
  have served : exec (.endWalk .b (byteOf 0)) overcountedWalk =
      .next (overcountedWalk.serve (.endWalk .b (byteOf 0)) (feedCommand (byteOf 0) (endRule .b))) := rfl
  rw [served, Host.Outcome.next.injEq] at h
  have counted : ((overcountedWalk.serve (.endWalk .b (byteOf 0)) (feedCommand (byteOf 0) (endRule .b))).feed
      0).ended = { count := 301, rolled := false } := by decide +kernel
  rwa [h, State.respond_feed] at counted

/-- Refutes O34: `overcountedWalk` has lawful district records, and after END_WALK of its feed 0 the counter of ended
walks stands at 301 and not at 0. -/
theorem not_endingAWalkQueuesOrLatchesTheDark : ¬ Obligations.EndingAWalkQueuesOrLatchesTheDark := by
  intro h
  obtain ⟨-, accepted⟩ := h .b 0 overcountedWalk (by decide +kernel)
  obtain ⟨t, ends, ran⟩ := accepted (.inl (by decide +kernel)) (by decide +kernel)
  have ended := ends [] [] (State.grantsAre_nil (by decide +kernel))
  have counted := overcountedWalk_ends ran
  rw [ended] at counted
  exact absurd counted (by decide +kernel)

/-- A fault on the line of feed 0 as the part takes it: the counter of aborted walks goes on from 300. -/
theorem overcountedWalk_aborts {t : State} (h : exec (.lineChange 0 .faulted) overcountedWalk = .next t) :
    (t.feed 0).abortedWalks = { count := 301, rolled := false } := by
  have taken : exec (.lineChange 0 .faulted) overcountedWalk =
      .next (overcountedWalk.whenRunning (fun s => s.lineChanges 0 .faulted)) := rfl
  rw [taken, Host.Outcome.next.injEq] at h
  rw [← h]
  decide +kernel

theorem State.chainsSettled_feed (s : State) (f : FeedId) : s.chainsSettled.feed f = s.feed f := by
  unfold State.chainsSettled
  split <;> rfl

/-- Refutes O31: `overcountedWalk` has lawful district records and no district to darken; after the fault its counter of
aborted walks stands at 301 and not at 0. -/
theorem not_aFaultDarkensItsFeed : ¬ Obligations.AFaultDarkensItsFeed := by
  intro h
  obtain ⟨-, -, accepted⟩ := h
  obtain ⟨t, w, v, districts, settles, ran, -, -, -, -, -, walked, -⟩ :=
    accepted 0 overcountedWalk (by decide +kernel) (by decide +kernel) (by decide +kernel) (by decide +kernel)
  have none : (overcountedWalk.districtsOf 0).filter (fun d => decide ((overcountedWalk.district d).state ≠ .off ∧
      (overcountedWalk.district d).state ≠ .dark ∧ (overcountedWalk.district d).state ≠ .latched)) = [] := by
    decide +kernel
  have down := walked (.inl (by decide +kernel))
  rw [none] at districts
  obtain rfl : w = t := districts
  have free : (w.feed 0).applyDeferred = false := by
    rw [down]
    show (overcountedWalk.feed 0).applyDeferred = false
    decide +kernel
  have settled := settles.1 free [] [] (State.grantsAre_nil (by rw [down]))
  have counted := overcountedWalk_aborts ran
  rw [State.chainsSettled_feed, settled, State.withGranted, State.feed_modFeed_same] at counted
  have rolled : (w.feed 0).abortedWalks = { count := 0, rolled := true } := by
    rw [down]
    show (overcountedWalk.feed 0).abortedWalks.oneMore = _
    decide +kernel
  exact absurd (rolled.symm.trans counted) (by decide)

end Sys2Proof.Machine
end

section
/-! # The settings laws: images, clamps, corrections and the store (R120, R145 to R149, R170 to R172) -/

namespace Sys2Proof.Machine

/-! ## Images in range, and fit to work from -/

theorem Image.InRange.withDistrict {i : Image} (h : i.InRange) {ds : DistrictSet} (hs : ds.InRange) (d : DistrictId) :
    (i.withDistrict d ds).InRange := by
  obtain ⟨districts, feeds, entries⟩ := h
  refine ⟨fun e => ?_, feeds, entries⟩
  rw [Image.district_withDistrict]
  split
  · exact hs
  · exact districts e

theorem Image.InRange.withFeed {i : Image} (h : i.InRange) {fs : FeedSet} (hs : fs.InRange) (f : FeedId) :
    (i.withFeed f fs).InRange := by
  obtain ⟨districts, feeds, entries⟩ := h
  refine ⟨districts, fun e => ?_, entries⟩
  rw [Image.feed_withFeed]
  split
  · exact hs
  · exact feeds e

theorem Image.InRange.withEntry {i : Image} (h : i.InRange) {c : ChainEntry} (hc : c.InRange) (e : EntryId) :
    (i.withEntry e c).InRange := by
  obtain ⟨districts, feeds, entries⟩ := h
  refine ⟨districts, feeds, fun x => ?_⟩
  rw [Image.entry_withEntry]
  split
  · exact hc
  · exact entries x

theorem Image.Workable.withDistrict {i : Image} (h : i.Workable) {ds : DistrictSet} (hs : ds.InRange)
    (ordered : ds.Ordered) (d : DistrictId) : (i.withDistrict d ds).Workable := by
  obtain ⟨range, order⟩ := h
  refine ⟨range.withDistrict hs d, fun e => ?_⟩
  rw [Image.district_withDistrict]
  split
  · exact ordered
  · exact order e

theorem Image.Workable.withFeed {i : Image} (h : i.Workable) {fs : FeedSet} (hs : fs.InRange) (f : FeedId) :
    (i.withFeed f fs).Workable := ⟨h.1.withFeed hs f, h.2⟩

/-- An image that takes the chain table of another (R154). -/
theorem Image.Workable.withChains {i j : Image} (h : i.Workable) (hj : j.InRange) :
    ({ i with chains := j.chains } : Image).Workable := by
  obtain ⟨⟨districts, feeds, -⟩, order⟩ := h
  exact ⟨⟨districts, feeds, hj.2.2⟩, order⟩

theorem defaultImage_workable : defaultImage.Workable := by decide +kernel

/-! ## What the SET commands write (R145 to R147) -/

theorem DistrictSet.InRange.write {ds : DistrictSet} (h : ds.InRange) {v : Nat} (hv : v ≤ 65535) (k : Nat) :
    (ds.write k (clampDistrictField k v)).InRange := by
  unfold DistrictSet.write clampDistrictField
  split <;> simp only [clamp, DistrictSet.InRange] at h ⊢ <;> omega

theorem FeedSet.InRange.write {fs : FeedSet} (h : fs.InRange) (k v : Nat) :
    (fs.write k (clampFeedField k v)).InRange := by
  unfold FeedSet.write clampFeedField
  split <;> simp only [clamp, FeedSet.InRange] at h ⊢ <;> omega

theorem chainEntryOf_inRange (e : EntryBytes) : (chainEntryOf e).InRange := by
  simp only [ChainEntry.InRange, chainEntryOf, List.length_map, List.length_take]
  omega

/-! ## What a correction writes (R149) -/

/-- The corrections keep a set in range: H is at most 1021, so T is raised to at most 1022 and L to at most 1023. -/
theorem State.correction_inRange {s : State} {d : DistrictId} (h : (s.pendingImage.district d).InRange) (named : Half) :
    (s.correction named d).set.InRange := by
  rw [State.correction_set]
  simp only [DistrictSet.InRange, DistrictSet.corrected, DistrictSet.correctedL, DistrictSet.correctedT] at h ⊢
  repeat' split
  all_goals omega

/-! ## The store (R170, R171) -/

/-- A stored image with its check word, and a capture being written, are fit to work from. -/
abbrev Nv.Workable (n : Nv) : Prop :=
  (n.check.isSome = true → n.image.Workable) ∧ n.writing.all (fun w => decide w.capture.Workable) = true

theorem Nv.Workable.cutOff {n : Nv} (h : n.Workable) : n.cutOff.Workable := by
  unfold Nv.cutOff
  split
  · exact h
  · exact ⟨by simp, rfl⟩

/-- The image that a start loads: a stored one with its check word, or the defaults (R172). -/
theorem Nv.Workable.loaded {n : Nv} (h : n.Workable) : n.loaded.Workable := by
  unfold Nv.loaded Nv.valid
  split
  case isTrue valid => exact h.1 (by rw [beq_iff_eq.1 valid]; rfl)
  case isFalse => exact defaultImage_workable

theorem Nv.Workable.tick {n : Nv} (h : n.Workable) : n.tick.Workable := by
  obtain ⟨stored, captured⟩ := h
  refine ⟨stored, ?_⟩
  unfold Nv.tick
  rwa [Option.all_map]

/-! ## States with the same settings -/

/-- What the settings laws read of a state: both images and the store. -/
def State.settings (s : State) : Image × Image × Nv := (s.pendingImage, s.activeImage, s.nv)

/-- The settings laws, part by part (R120, R145 to R149, R170 to R172). -/
structure State.WellSet (s : State) : Prop where
  pending : s.pendingImage.InRange
  active : s.activeImage.Workable
  store : s.nv.Workable

theorem State.wellSet_iff (s : State) : s.WellSet ↔ s.SettingsLawful :=
  ⟨fun ⟨pending, active, store⟩ => ⟨pending, active, store⟩, fun ⟨pending, active, store⟩ => ⟨pending, active, store⟩⟩

theorem State.WellSet.same {s t : State} (h : s.WellSet) (e : t.settings = s.settings := by rfl) : t.WellSet := by
  simp only [State.settings, Prod.mk.injEq] at e
  obtain ⟨pending, active, nv⟩ := e
  exact ⟨pending ▸ h.pending, active ▸ h.active, nv ▸ h.store⟩

theorem OnlyRecords.settings {s t : State} (h : OnlyRecords s t) : t.settings = s.settings := by
  simp only [State.settings, h.pendingImage, h.activeImage, h.nv]

/-- What is done for each of some districts in turn. -/
theorem State.foldl_settings {act : State → DistrictId → State} (h : ∀ s d, (act s d).settings = s.settings)
    (ds : List DistrictId) (s : State) : (ds.foldl act s).settings = s.settings := by
  induction ds generalizing s with
  | nil => rfl
  | cons d ds ih => rw [List.foldl_cons, ih, h]

@[simp] theorem State.post_settings (s : State) (ev : Event) : (s.post ev).settings = s.settings := rfl

@[simp] theorem State.postDistrict_settings (s : State) (kind : EventKind) (d : DistrictId) (detail value : Nat) :
    (s.postDistrict kind d detail value).settings = s.settings := rfl

@[simp] theorem State.modDistrict_settings (s : State) (d : DistrictId) (g : District → District) :
    (s.modDistrict d g).settings = s.settings := rfl

@[simp] theorem State.modFeed_settings (s : State) (f : FeedId) (g : Feed → Feed) :
    (s.modFeed f g).settings = s.settings := rfl

@[simp] theorem State.modWalk_settings (s : State) (f : FeedId) (g : Walk → Walk) :
    (s.modWalk f g).settings = s.settings := rfl

@[simp] theorem State.modPort_settings (s : State) (p : Port) (g : PortRecord → PortRecord) :
    (s.modPort p g).settings = s.settings := rfl

@[simp] theorem State.respond_settings (s : State) (p : Port) (cmd : Byte) (reply : Reply) :
    (s.respond p cmd reply).settings = s.settings := rfl

/-! ### The arbiter and the districts (chapters 02 to 05) -/

@[simp] theorem State.runGrantRule_settings (s : State) (f : FeedId) : (s.runGrantRule f).settings = s.settings :=
  (OnlyRecords.runGrantRule s f).settings

@[simp] theorem State.join_settings (s : State) (f : FeedId) (d : DistrictId) : (s.join f d).settings = s.settings :=
  State.runGrantRule_settings _ f

@[simp] theorem State.returnToService_settings (s : State) (d : DistrictId) :
    (s.returnToService d).settings = s.settings := (OnlyRecords.returnToService s d).settings

@[simp] theorem State.leaveFor_settings (s : State) (f : FeedId) (d : DistrictId) (st : DState) :
    (s.leaveFor f d st).settings = s.settings := (OnlyRecords.leaveFor s f d st).settings

@[simp] theorem State.tripOrLatch_settings (s : State) (d : DistrictId) (cause : Cause) :
    (s.tripOrLatch d cause).settings = s.settings := by
  unfold State.tripOrLatch
  split <;> rfl

@[simp] theorem State.endGrace_settings (s : State) (v : DistrictId) : (s.endGrace v).settings = s.settings := by
  unfold State.endGrace
  split <;> rfl

@[simp] theorem State.abandonSwap_settings (s : State) (d : DistrictId) : (s.abandonSwap d).settings = s.settings := by
  unfold State.abandonSwap
  split
  · exact s.endGrace_settings d
  · rfl

@[simp] theorem State.darken_settings (f : FeedId) (s : State) (d : DistrictId) :
    (s.darken f d).settings = s.settings := s.abandonSwap_settings d

@[simp] theorem State.capture_settings (s : State) (f : FeedId) : (s.capture f).settings = s.settings :=
  State.foldl_settings (fun u d => u.modDistrict_settings d _) _ _

@[simp] theorem State.abortAnyWalk_settings (s : State) (f : FeedId) : (s.abortAnyWalk f).settings = s.settings := by
  unfold State.abortAnyWalk
  split <;> rfl

@[simp] theorem State.swapTrigger_settings (s : State) (v : DistrictId) : (s.swapTrigger v).settings = s.settings := by
  unfold State.swapTrigger
  dsimp only
  repeat' split
  all_goals rfl

@[simp] theorem State.trip_settings (s : State) (d : DistrictId) (why : Condition) (figure : Nat) :
    (s.trip d why figure).settings = s.settings := State.tripOrLatch_settings _ d _

@[simp] theorem State.judgeOccupancy_settings (s : State) (d : DistrictId) :
    (s.judgeOccupancy d).settings = s.settings := by
  unfold State.judgeOccupancy
  dsimp only
  repeat' split
  all_goals rfl

@[simp] theorem State.evaluatePlain_settings (s : State) (d : DistrictId) (x : Nat) :
    (s.evaluatePlain d x).settings = s.settings := by
  unfold State.evaluatePlain State.evaluateLive
  dsimp only
  repeat' split
  all_goals simp [State.excuse, State.defer]

@[simp] theorem State.evaluatePartner_settings (s : State) (d : DistrictId) (x : Nat) :
    (s.evaluatePartner d x).settings = s.settings := by
  unfold State.evaluatePartner State.resolveDeferral
  dsimp only
  repeat' split
  all_goals simp [State.excuse]

@[simp] theorem State.evaluateReversing_settings (s : State) (d : DistrictId) (x : Nat) :
    (s.evaluateReversing d x).settings = s.settings := by
  unfold State.evaluateReversing
  repeat' split
  all_goals simp

/-! ### The walker (chapter 06) -/

@[simp] theorem State.settleDark_settings (f : FeedId) (s : State) (d : DistrictId) :
    (s.settleDark f d).settings = s.settings := by
  unfold State.settleDark
  split <;> rfl

@[simp] theorem admitFrom_settings (f : FeedId) (ms : List DistrictId) (s : State) :
    (admitFrom f ms s).settings = s.settings := by
  induction ms generalizing s with
  | nil => rfl
  | cons m rest ih =>
    unfold admitFrom
    dsimp only
    repeat' split
    all_goals simp [ih, State.skipMember, State.haltWalk, State.postWalk, State.admitMember]

@[simp] theorem State.runAdmission_settings (s : State) (f : FeedId) : (s.runAdmission f).settings = s.settings :=
  admitFrom_settings f _ s

end Sys2Proof.Machine
end

section
/-! # The settings laws through walks, copies, samples and faults (R115, R139, R149 to R154) -/

namespace Sys2Proof.Machine

/-! ## The walker (chapter 06): a walk's end copies a waiting chain table (R139, R154) -/

namespace State.WellSet
variable {s : State}

theorem copyChains (h : s.WellSet) (o : Origin) : (s.copyChains o).WellSet := by
  obtain ⟨pending, active, nv⟩ := h
  exact ⟨pending, active.withChains pending, nv⟩

theorem copyWaitingChains (h : s.WellSet) : s.copyWaitingChains.WellSet := by
  unfold State.copyWaitingChains
  split
  · exact h.copyChains _
  · exact h

theorem endWalk (h : s.WellSet) (f : FeedId) (o : Origin) (why : EndReason) :
    (s.endWalk f o why).WellSet := by
  refine State.WellSet.copyWaitingChains (h.same ?_)
  simp [State.postWalk, State.foldl_settings (State.settleDark_settings f)]

theorem pauseOrLink {f : FeedId} {visit : Position → State → State}
    (hv : ∀ pos {u : State}, u.WellSet → (visit pos u).WellSet) (h : s.WellSet) :
    (s.pauseOrLink visit f).WellSet := by
  unfold State.pauseOrLink
  split
  · exact h.same
  · split
    · exact h.endWalk f _ _
    · exact hv _ h

theorem complete {f : FeedId} {visit : Position → State → State}
    (hv : ∀ pos {u : State}, u.WellSet → (visit pos u).WellSet) (h : s.WellSet) :
    (s.complete visit f).WellSet := by
  have reported : (s.postEntryDone f).WellSet := h.same
  unfold State.complete
  split
  · split
    · exact reported.same
    · exact reported.pauseOrLink hv
  · exact h

theorem visit (h : s.WellSet) (n : Nat) (f : FeedId) (pos : Position) : (visit n f pos s).WellSet := by
  induction n generalizing pos s with
  | zero => exact h
  | succ n ih =>
    unfold Machine.visit
    dsimp only
    split
    · exact State.WellSet.endWalk h.same f _ _
    · exact (h.same (by simp)).complete fun pos _ hu => ih hu pos

theorem visitEntry (f : FeedId) (pos : Position) {s : State} (h : s.WellSet) : (s.visitEntry f pos).WellSet :=
  h.visit _ f pos

theorem followLink (h : s.WellSet) (f : FeedId) : (s.followLink f).WellSet := by
  unfold State.followLink
  split
  · exact h.endWalk f _ _
  · exact h.visitEntry f _

theorem startWalk (h : s.WellSet) (f : FeedId) (o : Origin) (reason : Nat) :
    (s.startWalk f o reason).WellSet := by
  unfold State.startWalk
  dsimp only
  split
  · exact State.WellSet.endWalk h.same f _ _
  · exact State.WellSet.visitEntry f _ h.same

theorem resumeEntry (h : s.WellSet) (f : FeedId) : (s.resumeEntry f).WellSet :=
  (h.same (s.runAdmission_settings f)).complete (visitEntry f)

theorem resumeWalk (h : s.WellSet) (p : Port) (f : FeedId) : (s.resumeWalk p f).WellSet := by
  unfold State.resumeWalk
  dsimp only
  split
  · exact State.WellSet.pauseOrLink (visitEntry f) h.same
  · exact State.WellSet.resumeEntry h.same f
  all_goals exact h.same

theorem walkNotice (h : s.WellSet) (f : FeedId) (d : DistrictId) (o : NoticeOutcome) :
    (s.walkNotice f d o).WellSet := by
  unfold State.walkNotice
  split
  · exact h
  · refine State.WellSet.complete (visitEntry f) (h.same ?_)
    repeat' split
    all_goals simp [State.haltWalk, State.postWalk]

/-! ## Notices and copies (R113, R115, R149 to R153) -/

theorem installFeed (h : s.WellSet) (f : FeedId) : (s.installFeed f).WellSet := by
  obtain ⟨pending, active, nv⟩ := h
  exact ⟨pending, active.withFeed (pending.2.1 f) f, nv⟩

theorem copyFeed (h : s.WellSet) (f : FeedId) : (s.copyFeed f).WellSet :=
  (h.installFeed f).same (State.runGrantRule_settings _ f)

theorem copyWaitingFeed (h : s.WellSet) (f : FeedId) : (s.copyWaitingFeed f).WellSet := by
  unfold State.copyWaitingFeed
  split
  · exact (h.installFeed f).same (State.runGrantRule_settings _ f)
  · exact h

theorem soakEndNotice (h : s.WellSet) (f : FeedId) (d : DistrictId) (c : SoakContext) (o : NoticeOutcome) :
    (s.soakEndNotice f d c o).WellSet := by
  have noticed : ∀ {u : State}, u.WellSet →
      (if c.origin = .individual then u else u.walkNotice f d o).WellSet := fun hu => by
    split
    · exact hu
    · exact hu.walkNotice f d o
  exact copyWaitingFeed (same (noticed h.same) (State.runGrantRule_settings _ f)) f

/-- A correction leaves the district's pending set in range, with H below T below L (R149). -/
theorem correct (h : s.WellSet) (named : Half) (o : Origin) (d : DistrictId) :
    (s.correct named o d).WellSet ∧ ((s.correct named o d).pendingImage.district d).Ordered := by
  obtain ⟨-, -, sameActive, -, -, -, sameNv, -⟩ := s.correct_frame named o d
  have set : (s.correct named o d).pendingImage = s.pendingImage.withDistrict d (s.correction named d).set :=
    s.correct_pendingImage named o d
  refine ⟨⟨?_, sameActive ▸ h.active, sameNv ▸ h.store⟩, ?_⟩
  · rw [set]
    exact h.pending.withDistrict (State.correction_inRange (h.pending.1 d) named) d
  · rw [set, Image.district_withDistrict, if_pos rfl]
    exact s.correction_ordered named d

/-- The copy of a corrected set (R150 to R152). -/
theorem copyDistrict {d : DistrictId} (h : s.WellSet) (ordered : (s.pendingImage.district d).Ordered)
    (free : (s.district d).state.defersApply = false) : (s.copyDistrict d).WellSet := by
  obtain ⟨pending, active, nv⟩ := h
  have copied : (s.setCopied d).WellSet := ⟨pending, active.withDistrict (pending.1 d) ordered d, nv⟩
  exact copied.same (OnlyRecords.copyDistrict free).settings

theorem deferredCopy (h : s.WellSet) (d : DistrictId) : (s.deferredCopy d).WellSet := by
  unfold State.deferredCopy
  dsimp only
  split
  case isTrue due =>
    simp only [Bool.and_eq_true, Bool.not_eq_true'] at due
    obtain ⟨corrected, ordered⟩ := h.correct 0 .device d
    exact State.WellSet.copyDistrict corrected.same ordered (by simpa using due.2)
  case isFalse => exact h

theorem deferredCopies (h : s.WellSet) (ds : List DistrictId) : (ds.foldl State.deferredCopy s).WellSet := by
  induction ds generalizing s with
  | nil => exact h
  | cons d ds ih => exact ih (h.deferredCopy d)

/-! ## Soak ends, swaps and samples (chapters 02 to 04) -/

theorem soakFail (h : s.WellSet) (d : DistrictId) (c : SoakContext) (why : SoakFailure) :
    (s.soakFail d c why).WellSet := by
  unfold State.soakFail
  exact (soakEndNotice (h.same (by simp)) _ d c _).deferredCopy d

theorem soakPass (h : s.WellSet) (d : DistrictId) (c : SoakContext) : (s.soakPass d c).WellSet := by
  unfold State.soakPass
  exact (soakEndNotice h.same _ d c _).deferredCopy d

theorem swapSuccess (h : s.WellSet) (v : DistrictId) : (s.swapSuccess v).WellSet := by
  unfold State.swapSuccess
  exact deferredCopy (h.same (by simp)) v

theorem swapFail (h : s.WellSet) (v : DistrictId) (test figure : Nat) : (s.swapFail v test figure).WellSet := by
  unfold State.swapFail
  exact deferredCopy (h.same (by simp)) v

theorem evaluateCheck (h : s.WellSet) (d : DistrictId) (x : Nat) : (s.evaluateCheck d x).WellSet := by
  unfold State.evaluateCheck
  dsimp only
  split
  · exact h.swapFail d _ _
  · split
    · exact h.swapFail d _ _
    · split
      · exact swapSuccess h.same d
      · exact h.same

theorem evaluateSoak (h : s.WellSet) (d : DistrictId) (x : Nat) : (s.evaluateSoak d x).WellSet := by
  unfold State.evaluateSoak
  dsimp only
  repeat' split
  · exact h
  · exact h.soakFail d _ _
  · exact h.soakFail d _ _
  · exact h.soakPass d _
  · exact h.soakFail d _ _
  · exact h.same

theorem evaluate (h : s.WellSet) (d : DistrictId) (x : Nat) : (s.evaluate d x).WellSet := by
  unfold State.evaluate
  split
  · exact h.evaluateSoak d x
  · exact h.evaluateCheck d x
  · split
    · exact h.same (s.evaluateReversing_settings d x)
    · exact h.same (s.evaluatePartner_settings d x)
  all_goals exact h

theorem takeSample (h : s.WellSet) (d : DistrictId) (x : Nat) : (s.takeSample d x).WellSet := by
  unfold State.takeSample
  split
  · exact h
  · exact evaluate (h.same (by simp)) d x

/-! ## Entry to OFF, fault lines and CYCLE-FEED (R11, R98 to R104, R116, R130) -/

theorem toOff (h : s.WellSet) (d : DistrictId) : (s.toOff d).WellSet := by
  have left : (s.leftForOff d).WellSet := h.same (by simp [State.leftForOff])
  rw [State.toOff_eq]
  split
  · exact left.soakEndNotice _ d _ _
  · exact left

theorem acceptFault (h : s.WellSet) (f : FeedId) : (s.acceptFault f).WellSet := by
  unfold State.acceptFault
  refine (copyWaitingFeed (deferredCopies (h.same ?_) _) f).copyWaitingChains
  simp [State.foldl_settings (State.darken_settings f)]

theorem cycle (h : s.WellSet) (p : Port) (f : FeedId) : (s.cycle p f).WellSet := by
  rw [State.cycle_eq]
  have begun : (s.cycleBegun f).WellSet := h.same (State.foldl_settings (State.darken_settings f) _ s)
  exact (begun.deferredCopies _).startWalk f _ _

theorem lineChanges (h : s.WellSet) (f : FeedId) (level : Level) : (s.lineChanges f level).WellSet := by
  unfold State.lineChanges
  split
  · exact h
  · split
    · dsimp only
      split
      · exact acceptFault h.same f
      · exact h.same
    · exact h.same

theorem acceptHealthy (h : s.WellSet) (f : FeedId) : (s.acceptHealthy f).WellSet := by
  unfold State.acceptHealthy
  dsimp only
  split
  · exact h.same
  · exact startWalk h.same f _ _

theorem pauseExpires (h : s.WellSet) (f : FeedId) : (s.pauseExpires f).WellSet := by
  unfold State.pauseExpires
  split
  · exact followLink h.same f
  · exact h

end State.WellSet

end Sys2Proof.Machine
end

section
/-! # Every step keeps the settings laws (R120, R144 to R149, R170 to R172) -/

namespace Sys2Proof.Machine

namespace State.WellSet
variable {s t : State}

/-! ## Requests at their owners (R9 to R17, R116, R134 to R137, R145 to R154) -/

theorem whenRunning (h : s.WellSet) {act : State → State} (k : (act s).WellSet) : (s.whenRunning act).WellSet := by
  unfold State.whenRunning
  split
  · exact h
  · exact k

theorem ite (h : s.WellSet) (k : t.WellSet) {c : Prop} [Decidable c] : (if c then t else s).WellSet := by
  split
  · exact k
  · exact h

theorem takeRequest (h : s.WellSet) (p : Port) : (s.takeRequest p).WellSet := h.ite h.same

theorem serve (h : s.WellSet) (i : Instr) {body : State → State × Reply}
    (k : ∀ {u : State}, u.WellSet → (body u).1.WellSet) : (s.serve i body).WellSet := by
  unfold State.serve
  split
  · exact h
  · refine h.whenRunning ?_
    split
    · exact h
    · split
      · exact h.same
      · dsimp only
        split
        · exact (k (h.takeRequest _)).same
        · exact (h.takeRequest _).same

theorem maskCommand (h : s.WellSet) (p : Port) (c : Command) (mask : Half) {rule : DistrictId → State → State × Verdict}
    (k : ∀ d {u : State}, u.WellSet → (rule d u).1.WellSet) : (maskCommand p c mask rule s).1.WellSet := by
  have acted : ∀ d {u : State}, u.WellSet → (u.acted p c rule d).WellSet := fun d u hu => by
    have posted : ((rule d u).1.postCommandState p c d).WellSet := (k d hu).same
    exact posted.ite (posted.deferredCopy d)
  have all : ∀ (ds : List DistrictId) (t : Tally), t.state.WellSet → (ds.foldl (Tally.step p c rule) t).state.WellSet := by
    intro ds
    induction ds with
    | nil => exact fun _ => id
    | cons d ds ih =>
      refine fun t ht => ih _ ?_
      rw [Tally.step_eq]
      exact ht.ite (acted d ht)
  exact all (namedDistricts mask) { state := s, done := [], unchanged := [], refused := [] } h

theorem enableRule (h : s.WellSet) (d : DistrictId) : (enableRule d s).1.WellSet := by
  unfold Machine.enableRule
  split
  · split
    · exact h.same (State.returnToService_settings _ d)
    · exact h
  all_goals exact h

theorem clearRule (h : s.WellSet) (d : DistrictId) : (clearRule d s).1.WellSet := by
  unfold Machine.clearRule
  split
  · exact h.same (State.returnToService_settings _ d)
  · exact h

theorem disableRule (h : s.WellSet) (d : DistrictId) : (disableRule d s).1.WellSet := by
  unfold Machine.disableRule
  split
  · exact h
  · exact h.toOff d

theorem holdRule (h : s.WellSet) (p : Port) (d : DistrictId) : (holdRule p d s).1.WellSet := by
  unfold Machine.holdRule
  split
  · exact h
  · dsimp only
    split
    · exact h.same
    · exact toOff h.same d

theorem markRule (h : s.WellSet) (test : District → Bool) (g : District → District) (d : DistrictId) :
    (markRule test g d s).1.WellSet := by
  unfold Machine.markRule
  split
  · exact h.same
  · exact h

/-- RELEASE, MARK-SEEN and RESET-STATS (R13, R14, R16, R17). -/
theorem markCommand (h : s.WellSet) (p : Port) (c : Command) (mask : Half) {test : District → Bool}
    {g : District → District} : (Machine.maskCommand p c mask (Machine.markRule test g) s).1.WellSet :=
  h.maskCommand p c mask fun d _ hu => hu.markRule test g d

theorem feedCommand (h : s.WellSet) {act : FeedId → State → State × Reply}
    (k : ∀ f {u : State}, u.WellSet → (act f u).1.WellSet) (number : Byte) : (feedCommand number act s).1.WellSet := by
  unfold Machine.feedCommand
  split
  · exact h
  · exact k _ h

/-- A command on a feed is accepted, or refused without effect (R116, R134). -/
theorem feedRule (h : s.WellSet) (k : t.WellSet) {c : Prop} [Decidable c] {accepted refused : Reply} :
    (if c then (t, accepted) else (s, refused)).1.WellSet := by
  split
  · exact k
  · exact h

theorem writeDistrict (h : s.WellSet) (number field : Byte) (value : Half) :
    (State.writeDistrict number field value s).1.WellSet := by
  unfold State.writeDistrict
  split
  · exact h
  · split
    · exact h
    · have written := (h.pending.1 ‹_›).write (v := value.toNat) (by omega) field.toNat
      exact ⟨h.pending.withDistrict written _, h.active, h.store⟩

theorem writeFeed (h : s.WellSet) (number field : Byte) (value : Half) :
    (State.writeFeed number field value s).1.WellSet := by
  unfold State.writeFeed
  split
  · exact h
  · split
    · exact h
    · exact ⟨h.pending.withFeed ((h.pending.2.1 _).write _ _) _, h.active, h.store⟩

theorem writeChainEntry (h : s.WellSet) (index : Byte) (entry : EntryBytes) :
    (State.writeChainEntry index entry s).1.WellSet := by
  unfold State.writeChainEntry
  split
  · exact h
  · exact ⟨h.pending.withEntry (chainEntryOf_inRange entry) _, h.active, h.store⟩

/-- A named district of APPLY is corrected before it is copied (R148 to R150). -/
theorem applyDistrict {t : ApplyTally} (h : t.state.WellSet) (p : Port) (named : Half) (d : DistrictId) :
    (t.district p named d).state.WellSet := by
  obtain ⟨corrected, ordered⟩ := h.correct named (.port p) d
  unfold ApplyTally.district
  dsimp only
  split
  · exact corrected.same
  case isFalse free => exact corrected.copyDistrict ordered (Bool.eq_false_iff.2 free)

theorem applyFeed {t : ApplyTally} (h : t.state.WellSet) (f : FeedId) : (t.feed f).state.WellSet := by
  unfold ApplyTally.feed
  split
  · exact h.copyFeed f
  · exact h.same

theorem applySettings (h : s.WellSet) (p : Port) (districts : Half) (feeds : Byte) :
    (State.applySettings p districts feeds s).1.WellSet := by
  have each : ∀ (ds : List DistrictId) (t : ApplyTally), t.state.WellSet →
      (ds.foldl (ApplyTally.district p districts) t).state.WellSet := by
    intro ds
    induction ds with
    | nil => exact fun _ => id
    | cons d ds ih => exact fun t ht => ih _ (ht.applyDistrict p districts d)
  have feedwise : ∀ (gs : List FeedId) (t : ApplyTally), t.state.WellSet →
      (gs.foldl ApplyTally.feed t).state.WellSet := by
    intro gs
    induction gs with
    | nil => exact fun _ => id
    | cons f gs ih => exact fun t ht => ih _ (ht.applyFeed f)
  unfold State.applySettings
  split
  · exact h
  · have applied := feedwise (namedFeeds feeds) _ (each (namedDistricts districts) s.applyBegun h)
    dsimp only
    split
    · exact applied
    · exact applied.same

theorem applyChains (h : s.WellSet) (p : Port) : (State.applyChains p s).1.WellSet := by
  unfold State.applyChains
  split
  · exact h.same
  · exact h.copyChains _

/-! ## The store, starts and time (R165, R170 to R172) -/

/-- SAVE captures the active image and erases the check word (R171). -/
theorem saveStarts (h : s.WellSet) (p : Port) : (State.saveStarts p s).1.WellSet := by
  unfold State.saveStarts
  split
  · exact h
  · exact ⟨h.pending, h.active, by simp, by simpa using h.active⟩

/-- A write that ends leaves the captured image with its check word, or none (R171). -/
theorem writeEnds (h : s.WellSet) (matched : Bool) : (s.writeEnds matched).WellSet := by
  have store := h.store.2
  unfold State.writeEnds
  split
  · exact h
  case _ w writing =>
    rw [writing] at store
    have captured : w.capture.Workable := of_decide_eq_true store
    cases matched with
    | true => exact ⟨h.pending, h.active, fun _ => captured, rfl⟩
    | false => exact ⟨h.pending, h.active, by simp, rfl⟩

theorem startUp (h : s.WellSet) (pin : Bool) (pins : StartPins) : (s.startUp pin pins).WellSet := by
  have store : s.nv.cutOff.Workable := h.store.cutOff
  exact ⟨store.loaded.1, store.loaded, store⟩

theorem tick (h : s.WellSet) : s.tick.WellSet := ⟨h.pending, h.active, h.store.tick⟩

/-! ## Every command, every step -/

theorem exec (h : s.WellSet) (c : Instr) (hc : exec c s = .next t) : t.WellSet := by
  have served : ∀ (i : Instr) {body : State → State × Reply}, (∀ u, (body u).1.settings = u.settings) →
      (s.serve i body).WellSet := fun i _ k => h.serve i fun hu => hu.same (k _)
  cases c with
  | powerOn pins | resetPin pins => cases hc; exact h.startUp _ pins
  | sampleArrival d level => cases hc; exact h.whenRunning (h.takeSample d _)
  | coolDownExpiry d => cases hc; exact h.whenRunning (h.ite (h.same (State.join_settings s _ d)))
  | settleExpiry d | deadTimeExpiry d => cases hc; exact h.whenRunning (h.ite h.same)
  | lineChange f level => cases hc; exact h.whenRunning (h.lineChanges f level)
  | debounceExpiry f => cases hc; exact h.whenRunning (h.ite (h.acceptHealthy f))
  | pauseExpiry f => cases hc; exact h.whenRunning (h.pauseExpires f)
  | lingerExpiry p | interByteTimeout p | responseEnd p => cases hc; exact h.whenRunning (h.ite h.same)
  | rxByte p b stopBit => cases hc; exact h.whenRunning h.same
  | storeWriteEnd matched => cases hc; exact h.whenRunning (h.writeEnds matched)
  | readDistrict p n | readDistrictStats p n | readFeed p n | readQueue p n | readSettings p k n i
  | readChainEntry p n i | readSnapshot p n => cases hc; exact served _ fun _ => rfl
  | readEvents p n =>
    cases hc
    refine served _ fun u => ?_
    unfold State.readEvents
    split <;> rfl
  | readPortStatus p o =>
    cases hc
    refine served _ fun u => ?_
    unfold State.readPortStatus
    split
    · rfl
    · split <;> rfl
  | setAttention p tr lg =>
    cases hc
    refine served _ fun u => ?_
    unfold State.setAttention
    split <;> rfl
  | enable p m => cases hc; exact h.serve _ fun hu => hu.maskCommand p _ m fun d _ k => k.enableRule d
  | clear p m => cases hc; exact h.serve _ fun hu => hu.maskCommand p _ m fun d _ k => k.clearRule d
  | disable p m => cases hc; exact h.serve _ fun hu => hu.maskCommand p _ m fun d _ k => k.disableRule d
  | hold p m => cases hc; exact h.serve _ fun hu => hu.maskCommand p _ m fun d _ k => k.holdRule p d
  | release p m =>
    cases hc
    rw [releaseRule_eq]
    exact h.serve _ fun hu => hu.markCommand p _ m
  | releaseForeign p m n =>
    cases hc
    refine h.serve _ fun hu => ?_
    unfold Machine.releaseForeign
    split
    · exact hu
    · rw [releaseRule_eq]
      exact hu.markCommand p _ m
  | markSeen p m =>
    cases hc
    rw [markSeenRule_eq]
    exact h.serve _ fun hu => hu.markCommand p _ m
  | resetStats p m =>
    cases hc
    rw [resetStatsRule_eq]
    exact h.serve _ fun hu => hu.markCommand p _ m
  | snapshot p | snapshotKeep p => cases hc; exact served _ fun _ => rfl
  | setDistrict p n k v => cases hc; exact h.serve _ fun hu => hu.writeDistrict n k v
  | setFeed p n k v => cases hc; exact h.serve _ fun hu => hu.writeFeed n k v
  | setChainEntry p i en => cases hc; exact h.serve _ fun hu => hu.writeChainEntry i en
  | apply p ds gs => cases hc; exact h.serve _ fun hu => hu.applySettings p ds gs
  | applyChains p => cases hc; exact h.serve _ fun hu => hu.applyChains p
  | save p => cases hc; exact h.serve _ fun hu => hu.saveStarts p
  | cycleFeed p n => cases hc; exact h.serve _ fun hu => hu.feedCommand (fun f _ k => k.feedRule (k.cycle p f)) n
  | haltWalk p n => cases hc; exact h.serve _ fun hu => hu.feedCommand (fun _ _ k => k.feedRule k.same) n
  | resumeWalk p n => cases hc; exact h.serve _ fun hu => hu.feedCommand (fun f _ k => k.feedRule (k.resumeWalk p f)) n
  | endWalk p n => cases hc; exact h.serve _ fun hu => hu.feedCommand (fun f _ k => k.feedRule (k.endWalk f _ _)) n
  | clearWalkErrors p n => cases hc; exact h.serve _ fun hu => hu.feedCommand (fun _ _ k => k.same) n
  | resetAsserted => cases hc; exact ⟨h.pending, h.active, h.store.cutOff⟩

/-- A command from the queue, one that is due, or a millisecond. -/
theorem step (h : s.WellSet) (hs : step s = .next t) : t.WellSet := by
  unfold Machine.step at hs
  split at hs
  case _ rest _ =>
    have popped : ({ s with pending := rest } : State).WellSet := h.same
    exact popped.exec _ hs
  · split at hs
    · exact h.exec _ hs
    · cases hs
      exact h.whenRunning h.tick

end State.WellSet

/-- Settles O57: the SET commands clamp, a copy into the active image follows a correction, and the store is written
from the active image. -/
theorem everyStepKeepsTheSettingsLaws : Obligations.EveryStepKeepsTheSettingsLaws := by
  intro s t lawful hs
  exact t.wellSet_iff.1 (State.WellSet.step (s.wellSet_iff.2 lawful) hs)

end Sys2Proof.Machine
end

section
/-! # READ-SETTINGS and READ-CHAIN-ENTRY, byte by byte (R121, R155) -/

namespace Sys2Proof.Machine

theorem entryOf_byteOf (e : EntryId) : entryOf (byteOf e.val) = some e := by revert e; decide

theorem optDistrictByte_eq (p : Option DistrictId) :
    optDistrictByte p = match p with
      | some d => byteOf d.val
      | none => 0xFF := by cases p <;> rfl

theorem optEntryByte_eq (e : Option EntryId) :
    optEntryByte e = match e with
      | some n => byteOf n.val
      | none => 0xFF := by cases e <;> rfl

/-- Four member places: the members, and FFh in the places left over (R121, R147). -/
theorem memberPlaces_eq {bs : List Byte} (h : bs.length ≤ 4) :
    (bs ++ [0xFF, 0xFF, 0xFF, 0xFF]).take 4 = bs ++ List.replicate (4 - bs.length) 0xFF := by
  have filler : ([0xFF, 0xFF, 0xFF, 0xFF] : List Byte) = List.replicate 4 0xFF := rfl
  rw [filler, List.take_append, List.take_of_length_le h, List.take_replicate, Nat.min_eq_left (Nat.sub_le 4 _)]

/-- Settles O39: the image that the selector names, and the byte form of the set or entry. -/
theorem settingsReadsAnswerTheImages : Obligations.SettingsReadsAnswerTheImages := by
  intro p s image i selected
  have named : s.imageOf image = some i := by
    obtain ⟨rfl, rfl⟩ | ⟨rfl, rfl⟩ := selected <;> rfl
  refine ⟨fun may d ds hds => ?_, fun may f fs hfs => ?_, fun may e ce hce fits => ?_⟩
  · subst hds
    show Host.Outcome.next (s.serve (.readSettings p 0 (byteOf d.val) image) _) = _
    rw [may.serve rfl]
    simp only [State.settingsBytes, named, if_true, districtOf_byteOf, Option.map_some, readReply, DistrictSet.bytes,
      byteOf_bit, optDistrictByte_eq, List.append_assoc]
    rfl
  · subst hfs
    show Host.Outcome.next (s.serve (.readSettings p 1 (byteOf f.val) image) _) = _
    rw [may.serve rfl]
    have feed : (1 : Byte) ≠ 0 := by decide
    simp only [State.settingsBytes, named, if_neg feed, if_true, feedOf_byteOf, Option.map_some, readReply,
      FeedSet.bytes, byteOf_bit, optEntryByte_eq, List.append_assoc]
    rfl
  · subst hce
    show Host.Outcome.next (s.serve (.readChainEntry p (byteOf e.val) image) _) = _
    rw [may.serve rfl]
    simp only [State.chainEntryBytes, named, entryOf_byteOf, Option.map_some, readReply, ChainEntry.bytes,
      memberPlaces_eq (bs := (i.entry e).members.map _) (by simpa using fits), List.length_map, byteOf_bit,
      optEntryByte_eq, List.append_assoc]
    rfl

end Sys2Proof.Machine
end

section
/-! # Walks whose counter of completed walks is out of its range refute O33 and O35 (R130, R135, R139, R141)

Both statements ask for lawful district records, and not for lawful feed records (`Feed.Lawful`), which keep the walk
counters within R141's range. In both an entry whose link is END is done, and the walk ends COMPLETED in the same event.
Above 255 the model's counter goes on counting, where `Counter.oneMore`, and with it `State.EndsWalk`, has it roll
over. -/

namespace Sys2Proof.Machine

/-- Feed 0 with a walk at chain entry 0, the default entry without a pause and with link END; the counter of completed
walks is out of its range. -/
def overcountedAtEnd (state : FState) (phase : Phase) (pause : Timer) : State :=
  overcountedWalk.modFeed 0 (fun x =>
    { x with
      state := state, completed := { count := 300, rolled := false }
      walk := { x.walk with phase := phase, kind := .chain, position := .entry 0, stepCount := 1, pause := pause } })

theorem State.walkOver_completed (s : State) (f : FeedId) (o : Origin) :
    ((s.walkOver f o .completed).feed f).completed = (s.feed f).completed.oneMore := by
  have latched : ∀ (ds : List DistrictId) (u : State),
      (ds.foldl (fun u d => u.postDistrict .latched d 7 (s.district d).retry) u).feed f = u.feed f := by
    intro ds
    induction ds with
    | nil => exact fun _ => rfl
    | cons d ds ih => exact fun u => ih _
  unfold State.walkOver
  rw [State.post_feed, latched, State.feed_modFeed_same]
  rfl

/-- A link of END ends the walk in the words of the statements; from an empty queue nothing is granted, and the counter
of completed walks is the one that `Counter.oneMore` gives. -/
theorem State.Links.completed_of_end {s t : State} {f : FeedId} (h : State.Links 1 f s t)
    (last : s.nextPosition f = none) (queue : ((s.walkOver f .device .completed).feed f).queue = []) :
    (t.feed f).completed = (s.feed f).completed.oneMore := by
  have ended := h.1 last [] [] (State.grantsAre_nil queue)
  rw [ended, State.chainsSettled_feed, State.withGranted_feed, if_pos rfl]
  exact s.walkOver_completed f .device

/-! ## The pause of the last entry expires (R130) -/

/-- The walk of feed 0 is in the pause of its last entry, which has run out. -/
def overcountedPausing : State := overcountedAtEnd .walking .pausing (some 0)

/-- PAUSE_EXPIRY as the part does it: the walk ends COMPLETED and the counter goes on from 300. -/
theorem overcountedPausing_counts_on {t : State} (h : exec (.pauseExpiry 0) overcountedPausing = .next t) :
    (t.feed 0).completed = { count := 301, rolled := false } := by
  have ran : exec (.pauseExpiry 0) overcountedPausing =
      .next (overcountedPausing.whenRunning (fun s => s.pauseExpires 0)) := rfl
  rw [ran, Host.Outcome.next.injEq] at h
  rw [← h]
  decide +kernel

/-- Refutes O33: `overcountedPausing` has lawful district records, and the expiry of its feed's pause ends the walk, whose
counter then stands at 301 and not at 0. -/
theorem not_aPauseEndsInALinkOrTheEnd : ¬ Obligations.APauseEndsInALinkOrTheEnd := by
  intro h
  obtain ⟨t, links, ran⟩ := (h.2 0 overcountedPausing (by decide +kernel) (by decide +kernel)).1
    (by decide +kernel) (by decide +kernel)
  have rolled := (links 1).completed_of_end (by decide +kernel) (by decide +kernel)
  rw [overcountedPausing_counts_on ran] at rolled
  exact absurd rolled (by decide +kernel)

/-! ## The walk of a held last entry is resumed (R135) -/

/-- The walk of feed 0 is halted and holds its last entry. -/
def overcountedHeld : State := overcountedAtEnd .walkHalted .entryHeld none

/-- RESUME_WALK as the part does it: the walk ends COMPLETED and the counter goes on from 300. -/
theorem overcountedHeld_counts_on {t : State} {reply : Reply}
    (h : exec (.resumeWalk .b (byteOf 0)) overcountedHeld = .next (t.respond .b 0x38 reply)) :
    (t.feed 0).completed = { count := 301, rolled := false } := by
  have served : exec (.resumeWalk .b (byteOf 0)) overcountedHeld =
      .next (overcountedHeld.serve (.resumeWalk .b (byteOf 0)) (feedCommand (byteOf 0) (resumeRule .b))) := rfl
  rw [served, Host.Outcome.next.injEq] at h
  have counted : ((overcountedHeld.serve (.resumeWalk .b (byteOf 0)) (feedCommand (byteOf 0) (resumeRule .b))).feed
      0).completed = { count := 301, rolled := false } := by decide +kernel
  rwa [h, State.respond_feed] at counted

/-- Refutes O35: `overcountedHeld` has lawful district records, and RESUME_WALK follows the link END of its held entry
at once, after which the counter of completed walks stands at 301 and not at 0. -/
theorem not_walksHaltResumeAndForgetErrors : ¬ Obligations.WalksHaltResumeAndForgetErrors := by
  intro h
  obtain ⟨-, resume, -⟩ := h .b 0 overcountedHeld
  obtain ⟨held, -⟩ := (resume (by decide +kernel)).2 (by decide +kernel) (by decide +kernel) _ rfl
  obtain ⟨t, links, ran⟩ := (held (by decide +kernel)).2 (.inl (by decide +kernel))
  have rolled := (links 1).completed_of_end (by decide +kernel) (by decide +kernel)
  rw [overcountedHeld_counts_on ran] at rolled
  exact absurd rolled (by decide +kernel)

end Sys2Proof.Machine
end

section
/-! # The stored form of an image (R155, R170) -/

namespace Sys2Proof.Machine

/-! ## An image's sets, in the order of their numbers -/

theorem vector_toList_eq_map_finRange {α : Type} {n : Nat} (v : Vector α n) :
    v.toList = (List.finRange n).map (fun k => v[k.val]) :=
  List.ext_getElem (by simp) (by simp)

theorem Image.bytes_eq (i : Image) :
    i.bytes = (List.finRange 16).flatMap (fun d => (i.district d).bytes) ++
      (List.finRange 4).flatMap (fun f => (i.feed f).bytes) ++
      (List.finRange 64).flatMap (fun e => (i.entry e).bytes) := by
  simp only [Image.bytes, vector_toList_eq_map_finRange, List.flatMap_map]
  rfl

/-! ## How many bytes each set takes -/

theorem DistrictSet.bytes_length (ds : DistrictSet) : ds.bytes.length = 24 := rfl

theorem FeedSet.bytes_length (fs : FeedSet) : fs.bytes.length = 6 := rfl

theorem ChainEntry.bytes_length (ce : ChainEntry) : ce.bytes.length = 10 := by
  simp [ChainEntry.bytes, twoBytes]

theorem flatMap_finRange_length {n k : Nat} {form : Fin n → List Byte} (each : ∀ a, (form a).length = k) :
    ((List.finRange n).flatMap form).length = n * k := by
  simp [List.length_flatMap, each]

/-- 16 sets in 24 bytes, 4 in 6 and 64 in 10. -/
theorem Image.bytes_length (i : Image) : i.bytes.length = 1048 := by
  rw [i.bytes_eq, List.length_append, List.length_append,
    flatMap_finRange_length fun d => (i.district d).bytes_length,
    flatMap_finRange_length fun f => (i.feed f).bytes_length,
    flatMap_finRange_length fun e => (i.entry e).bytes_length]

/-! ## The byte form of a set, and the check word -/

theorem ChainEntry.bytes_eq {ce : ChainEntry} (fits : ce.members.length ≤ 4) :
    ce.bytes = [byteOf ce.feed.val, byteOf ce.members.length] ++ ce.members.map (fun m => byteOf m.val) ++
      List.replicate (4 - ce.members.length) 0xFF ++ twoBytes ce.pause ++
      [byteOf (bit ce.keepPause), optEntryByte ce.link] := by
  simp only [ChainEntry.bytes, memberPlaces_eq (bs := ce.members.map _) (by simpa using fits), List.length_map,
    List.append_assoc]

/-- The check word makes up for the sum of the bytes (R170). -/
theorem Image.check_add_sum (i : Image) : (i.check.toNat + (i.bytes.map BitVec.toNat).sum) % 65536 = 65535 := by
  unfold Image.check halfOf
  generalize (i.bytes.map BitVec.toNat).sum = total
  rw [BitVec.toNat_sub, BitVec.toNat_ofNat]
  have full : (0xFFFF : Half).toNat = 65535 := rfl
  omega

/-- Settles O17: the forms set by set, their lengths added up, and the check word. -/
theorem aStoredImageIs1048Bytes : Obligations.AStoredImageIs1048Bytes := by
  refine ⟨fun i => ?_, fun ds => ?_, fun fs => ?_, fun ce fits => ?_, Image.check_add_sum, Nv.valid_iff,
    fun i _ => i.bytes_length⟩
  · exact i.bytes_eq
  · rw [DistrictSet.bytes, byteOf_bit, byteOf_bit]
    cases ds.partner <;> rfl
  · rw [FeedSet.bytes, byteOf_bit]
    cases fs.chainHead <;> rfl
  · rw [ChainEntry.bytes_eq fits, byteOf_bit]
    cases ce.link <;> rfl

end Sys2Proof.Machine
end

section
/-! # SET-DISTRICT, SET-FEED and SET-CHAIN-ENTRY: clamped, written and answered (R145 to R147) -/

namespace Sys2Proof.Machine

theorem clamp_eq (lo hi v : Nat) : clamp lo hi v = max lo (min v hi) := by rw [clamp, Nat.min_comm]

/-! ## Fields that are not numbers (R145, R146) -/

theorem kindOf_min (v : Nat) :
    kindOf (min v 2) = if v = 0 then .plain else if v = 1 then .reversing else .unused := by
  rcases v with _ | _ | v
  · rfl
  · rfl
  · have above : min (v + 1 + 1) 2 = 2 := by omega
    rw [above, if_neg (by omega), if_neg (by omega)]
    rfl

theorem flag_min (v : Nat) : (min v 1 == 1) = decide (v ≠ 0) := by
  rw [beq_eq_decide, decide_eq_decide]
  omega

theorem dite_lt_eq_ofNat {n : Nat} [NeZero n] (v : Nat) :
    (if h : v < n then some (⟨v, h⟩ : Fin n) else none) = if v < n then some (Fin.ofNat n v) else none := by
  split
  next h => exact congrArg some (Fin.ext (Nat.mod_eq_of_lt h).symm)
  next => rfl

/-- A field that names a district or an entry: what is above the largest number is written as 255 and stored as NONE. -/
theorem namingField_eq {n : Nat} [NeZero n] {top : Nat} (hn : n = top + 1) (small : top < 255) (v : Nat) :
    (if h : (if v ≤ top then v else 255) < n then some (⟨_, h⟩ : Fin n) else none) =
      if v ≤ top then some (Fin.ofNat n v) else none := by
  rw [dite_lt_eq_ofNat]
  by_cases h : v ≤ top
  · rw [if_pos h, if_pos h, if_pos (by omega)]
  · rw [if_neg h, if_neg h, if_neg (by omega)]

/-! ## One field of a set, field by field (R145, R146) -/

theorem DistrictSet.fieldWritten_eq (ds : DistrictSet) (k v : Nat) :
    ds.fieldWritten k v = (ds.write k (clampDistrictField k v), clampDistrictField k v) := by
  unfold DistrictSet.fieldWritten DistrictSet.write clampDistrictField
  split <;>
    simp only [clamp_eq, kindOf_min, flag_min, namingField_eq (n := 16) (top := 15) rfl (by decide), Nat.min_comm]

theorem FeedSet.fieldWritten_eq (fs : FeedSet) (k v : Nat) :
    fs.fieldWritten k v = (fs.write k (clampFeedField k v), clampFeedField k v) := by
  unfold FeedSet.fieldWritten FeedSet.write clampFeedField
  split <;> simp only [clamp_eq, flag_min, namingField_eq (n := 64) (top := 63) rfl (by decide), Nat.min_comm]

/-! ## A chain entry as sent and as written (R147) -/

/-- The member bytes that an entry sent holds: as many as its count names, and no more than there are. -/
def memberBytes (e : EntryBytes) : List Byte := [e.member0, e.member1, e.member2, e.member3].take e.count.toNat

theorem take_min_count (e : EntryBytes) :
    [e.member0, e.member1, e.member2, e.member3].take (min 4 e.count.toNat) = memberBytes e := by
  rw [memberBytes, List.take_eq_take_min (i := e.count.toNat), Nat.min_comm]
  rfl

theorem memberBytes_length_le (e : EntryBytes) : (memberBytes e).length ≤ 4 := List.length_take_le' _ _

theorem entryOf_eq (b : Byte) : entryOf b = if b.toNat < 64 then some (Fin.ofNat 64 b.toNat) else none :=
  dite_lt_eq_ofNat b.toNat

/-- The entry written for the entry sent, in the words of R147. -/
theorem chainEntryOf_eq (e : EntryBytes) :
    chainEntryOf e =
      { feed := Fin.ofNat 4 (min e.feed.toNat 3)
        members := (memberBytes e).map (fun b => Fin.ofNat 16 (min b.toNat 15))
        pause := min e.pause.toNat 10000, keepPause := decide (e.keepPause.toNat ≠ 0)
        link := if e.link.toNat < 64 then some (Fin.ofNat 64 e.link.toNat) else none } := by
  have member : memberOf = fun b => Fin.ofNat 16 (min b.toNat 15) := by
    funext b
    rw [memberOf, Nat.min_comm]
  have keep : e.keepPause ≠ 0 ↔ e.keepPause.toNat ≠ 0 := not_congr (Byte.eq_zero_iff _)
  simp only [chainEntryOf, take_min_count, member, keep, entryOf_eq, Nat.min_comm]

theorem chainEntryClamped_eq_false_iff (e : EntryBytes) :
    chainEntryClamped e = false ↔ e.feed.toNat ≤ 3 ∧ e.count.toNat ≤ 4 ∧ (∀ b ∈ memberBytes e, b.toNat ≤ 15) ∧
      e.pause.toNat ≤ 10000 ∧ e.keepPause.toNat ≤ 1 ∧ (e.link.toNat < 64 ∨ e.link.toNat = 255) := by
  have endLink : e.link ≠ 0xFF ↔ e.link.toNat ≠ 255 := not_congr BitVec.toNat_eq
  simp only [chainEntryClamped, take_min_count, Bool.or_eq_false_iff, Bool.and_eq_false_iff, decide_eq_false_iff_not,
    List.any_eq_false, decide_eq_true_eq, Nat.not_lt, endLink, not_not, and_assoc, Nat.lt_succ_iff]

theorem feedByte_min (n : Nat) : byteOf (Fin.ofNat 4 (min n 3)).val = byteOf (min n 3) :=
  congrArg byteOf (Nat.mod_eq_of_lt (by omega))

theorem linkByte_eq (b : Byte) :
    optEntryByte (if b.toNat < 64 then some (Fin.ofNat 64 b.toNat) else none) = if b.toNat < 64 then b else 0xFF := by
  split
  next h =>
    have same : (Fin.ofNat 64 b.toNat).val = b.toNat := Nat.mod_eq_of_lt h
    rw [optEntryByte, same, byteOf, BitVec.ofNat_toNat, BitVec.setWidth_eq]
  next => rfl

/-- The answer to SET-CHAIN-ENTRY: the entry as written, and OK-CLAMPED where a field was clamped (R147). -/
theorem State.writeChainEntry_byteOf (e : EntryId) (sent : EntryBytes) (s : State) :
    s.writeChainEntry (byteOf e.val) sent =
      ({ s with pendingImage := s.pendingImage.withEntry e (chainEntryOf sent) },
        { status := if chainEntryClamped sent = false then .ok else .okClamped
          data := [byteOf e.val] ++ (chainEntryOf sent).bytes }) := by
  simp only [State.writeChainEntry, entryOf_byteOf]
  cases chainEntryClamped sent <;> rfl

/-- Settles O48: each field as its table clamps it, the entry field by field, and the answers. -/
theorem setCommandsClampAndWrite : Obligations.SetCommandsClampAndWrite := by
  refine ⟨fun i => ⟨i.district_withDistrict, fun _ _ => ⟨rfl, rfl⟩, i.feed_withFeed, fun _ _ => ⟨rfl, rfl⟩,
    i.entry_withEntry, fun _ _ => ⟨rfl, rfl⟩⟩, fun p s => ⟨fun may d field value known => ?_,
    fun may f field value known => ?_, fun may e sent members hmembers => ?_⟩⟩
  · show Host.Outcome.next (s.serve (.setDistrict p (byteOf d.val) field value) _) = _
    rw [may.serve rfl]
    simp only [State.writeDistrict, districtOf_byteOf, if_neg (Nat.not_lt.mpr known), writtenReply,
      DistrictSet.fieldWritten_eq]
    rfl
  · show Host.Outcome.next (s.serve (.setFeed p (byteOf f.val) field value) _) = _
    rw [may.serve rfl]
    simp only [State.writeFeed, feedOf_byteOf, if_neg (Nat.not_lt.mpr known), writtenReply, FeedSet.fieldWritten_eq]
    rfl
  · show Host.Outcome.next (s.serve (.setChainEntry p (byteOf e.val) sent) (State.writeChainEntry _ _)) = _
    have written : members = (memberBytes sent).map (fun b => Fin.ofNat 16 (min b.toNat 15)) := hmembers
    have fits : members.length ≤ 4 := by
      rw [written, List.length_map]
      exact memberBytes_length_le sent
    have keep : byteOf (bit (decide (sent.keepPause.toNat ≠ 0))) = if sent.keepPause.toNat = 0 then 0 else 1 := by
      simp [byteOf_bit]
    rw [may.serve rfl, State.writeChainEntry_byteOf, chainEntryOf_eq, ← written, ChainEntry.bytes_eq fits, feedByte_min,
      linkByte_eq, keep]
    simp only [chainEntryClamped_eq_false_iff]
    rfl

end Sys2Proof.Machine
end

section
/-! # Requests on the line: codes, parameters and the sum of a frame (R157, R160, R161) -/

namespace Sys2Proof.Machine

/-! ## Bytes and sums (R157) -/

/-- A half is its two bytes. -/
theorem joinBytes_halves (h : Half) : joinBytes (lowByte h) (highByte h) = h :=
  BitVec.extractLsb'_append_extractLsb'_eq_extractLsb' (by decide) |>.trans (by simp)

theorem lowByte_joinBytes (lo hi : Byte) : lowByte (joinBytes lo hi) = lo := BitVec.extractLsb'_append_eq_right

theorem highByte_joinBytes (lo hi : Byte) : highByte (joinBytes lo hi) = hi := BitVec.extractLsb'_append_eq_left

theorem halfBytes_joinBytes (lo hi : Byte) : halfBytes (joinBytes lo hi) = [lo, hi] := by
  rw [halfBytes, lowByte_joinBytes, highByte_joinBytes]

theorem halfBytes_eq (h : Half) : halfBytes h = [byteOf h.toNat, byteOf (h.toNat / 256)] := by
  simp [halfBytes, lowByte, highByte, byteOf, BitVec.extractLsb', Nat.shiftRight_eq_div_pow]

theorem byteSum_toNat (bs : List Byte) : (byteSum bs).toNat = (bs.map BitVec.toNat).sum % 256 := by
  induction bs with
  | nil => rfl
  | cons b bs ih =>
    have step : byteSum (b :: bs) = b + byteSum bs := rfl
    rw [step, BitVec.toNat_add, ih, List.map_cons, List.sum_cons, Nat.add_mod_mod]

theorem byteSum_append (as bs : List Byte) : byteSum (as ++ bs) = byteSum as + byteSum bs := by
  induction as with
  | nil => exact (BitVec.zero_add _).symm
  | cons a as ih => exact (congrArg (a + ·) ih).trans (BitVec.add_assoc a _ _).symm

/-- The CHECK byte brings the sum of the bytes before it to a multiple of 256. -/
theorem byteSum_checked (bs : List Byte) : byteSum (bs ++ [checkOf bs]) = 0 := by
  have one : byteSum [checkOf bs] = checkOf bs := BitVec.add_zero _
  rw [byteSum_append, one, checkOf]
  simp

/-! ## The catalogue of commands (R161) -/

theorem Command.mem_all (c : Command) : c ∈ Command.all := by cases c <;> decide

/-- No two commands share a code. -/
theorem Command.code_inj {c c' : Command} (h : c.code = c'.code) : c = c' := by
  have codes : ∀ a ∈ Command.all, ∀ b ∈ Command.all, a.code = b.code → a = b := by decide
  exact codes c (Command.mem_all c) c' (Command.mem_all c') h

theorem Command.ofCode_eq_some_iff {b : Byte} {c : Command} : Command.ofCode b = some c ↔ c.code = b := by
  constructor
  · intro found
    simpa using List.find?_some found
  · rintro rfl
    obtain ⟨c', found⟩ : ∃ c', Command.ofCode c.code = some c' :=
      Option.isSome_iff_exists.1 (List.find?_isSome.2 ⟨c, Command.mem_all c, by simp⟩)
    have same : c'.code = c.code := by simpa using List.find?_some found
    rw [found, Command.code_inj same]

/-! ## Requests and their parameter bytes (R161) -/

/-- Settles O3: a row is no request, or its parameter bytes are as many as its command's. -/
theorem requestsHaveTheirParameterCount : Obligations.RequestsHaveTheirParameterCount := by
  intro i
  cases i with
  | powerOn _ | resetPin _ | sampleArrival _ _ | coolDownExpiry _ | settleExpiry _ | deadTimeExpiry _
  | lineChange _ _ | debounceExpiry _ | pauseExpiry _ | lingerExpiry _ | interByteTimeout _ | rxByte _ _ _
  | responseEnd _ | storeWriteEnd _ | resetAsserted => exact Laws.RequestLength.of_no_request rfl
  | _ => exact Laws.RequestLength.of_request rfl rfl

theorem Command.paramBytes_le (c : Command) : c.paramBytes ≤ 11 := by cases c <;> decide

/-- The parameter bytes of a request are read back as the request. -/
theorem decodeRequest_of_encodeRequest {i : Instr} {p : Port} {c : Command} {ps : List Byte}
    (h : encodeRequest i = some (p, c, ps)) : decodeRequest p c ps = some i := by
  cases i with
  | enable _ _ | disable _ _ | hold _ _ | release _ _ | clear _ _ | markSeen _ _ | resetStats _ _
  | setDistrict _ _ _ _ | setFeed _ _ _ _ | apply _ _ _ | releaseForeign _ _ _ | setChainEntry _ _ _ =>
    cases h
    show some _ = some _
    rw [joinBytes_halves]
  | _ => cases h <;> rfl

/-- Parameters of the command's count are those of a request, which they are read as. -/
theorem exists_decodeRequest (p : Port) {c : Command} {ps : List Byte} (h : ps.length = c.paramBytes) :
    ∃ i, decodeRequest p c ps = some i ∧ encodeRequest i = some (p, c, ps) := by
  cases c with
  | applyChains | save | snapshot | snapshotKeep =>
    obtain rfl := List.length_eq_zero_iff.1 h
    exact ⟨_, rfl, rfl⟩
  | readDistrict | readDistrictStats | readFeed | readQueue | readSnapshot | readEvents | readPortStatus | cycleFeed
  | haltWalk | resumeWalk | endWalk | clearWalkErrors =>
    obtain ⟨a, rfl⟩ := List.length_eq_one_iff.1 h
    exact ⟨_, rfl, rfl⟩
  | readChainEntry | setAttention =>
    obtain ⟨a, b, rfl⟩ := List.length_eq_two.1 h
    exact ⟨_, rfl, rfl⟩
  | enable | disable | hold | release | clear | markSeen | resetStats =>
    obtain ⟨lo, hi, rfl⟩ := List.length_eq_two.1 h
    exact ⟨_, rfl, by rw [encodeRequest, halfBytes_joinBytes]⟩
  | readSettings =>
    obtain ⟨a, b, c, rfl⟩ := List.length_eq_three.1 h
    exact ⟨_, rfl, rfl⟩
  | apply | releaseForeign =>
    obtain ⟨lo, hi, b, rfl⟩ := List.length_eq_three.1 h
    exact ⟨_, rfl, by rw [encodeRequest, halfBytes_joinBytes]; rfl⟩
  | setDistrict | setFeed =>
    obtain ⟨n, k, lo, hi, rfl⟩ := List.length_eq_four.1 h
    exact ⟨_, rfl, by rw [encodeRequest, halfBytes_joinBytes]; rfl⟩
  | setChainEntry =>
    match ps, h with
    | [index, feed, count, m0, m1, m2, m3, lo, hi, keep, link], _ =>
      exact ⟨_, rfl, by simp only [encodeRequest, halfBytes_joinBytes]; rfl⟩
end Sys2Proof.Machine
end

section
/-! # Reception at a port: bytes, frames and the port timers (R156 to R159, R168) -/

namespace Sys2Proof.Machine

/-! ## Changes of one port -/

/-- A change of a port is told by what it makes of that port's record. -/
theorem State.modPort_congr {s : State} {p : Port} {g g' : PortRecord → PortRecord}
    (h : g (s.port p) = g' (s.port p)) : s.modPort p g = s.modPort p g' := by
  rw [State.modPort, State.modPort, h]

/-- A change that leaves the port's record is none. -/
theorem State.modPort_self {s : State} {p : Port} {g : PortRecord → PortRecord} (h : g (s.port p) = s.port p) :
    s.modPort p g = s := by
  rw [State.modPort, h]
  cases p <;> rfl

theorem State.modPort_modPort (s : State) (p : Port) (g g' : PortRecord → PortRecord) :
    (s.modPort p g).modPort p g' = s.modPort p (fun q => g' (g q)) := by cases p <;> rfl

/-! ## A byte by reception state (R156, R158) -/

theorem saturate_eq (n : Nat) : saturate n = if n < 255 then n + 1 else 255 := by
  unfold saturate
  split <;> omega

section Reception
variable {q : PortRecord}

theorem PortRecord.receptionFault_eq (q : PortRecord) :
    q.receptionFault =
      { q with
        reception := .hunt, interByte := none, disturbed := false
        badFrames := if q.badFrames < 255 then q.badFrames + 1 else 255 } := by
  rw [PortRecord.receptionFault, saturate_eq]

theorem PortRecord.receive_of_disabled (off : q.role = .disabled) (p : Port) (b : Byte) (stopBit : Bool) :
    q.receive p b stopBit = q := by rw [PortRecord.receive, if_pos off]

theorem PortRecord.receive_of_hunt (on : q.role ≠ .disabled) (hunts : q.reception = .hunt) (p : Port) (b : Byte)
    (stopBit : Bool) :
    q.receive p b stopBit = if stopBit = true ∧ b = 0x5C then q.gather [] else q := by
  rw [PortRecord.receive, if_neg on, hunts]
  simp only [Bool.and_eq_true, decide_eq_true_eq]
  rfl

theorem PortRecord.receive_of_frame (on : q.role ≠ .disabled) {got : List Byte} (gathers : q.reception = .frame got)
    (p : Port) (b : Byte) (stopBit : Bool) :
    q.receive p b stopBit = if stopBit then q.frameByte p got b else q.receptionFault := by
  rw [PortRecord.receive, if_neg on, gathers]

theorem PortRecord.receive_of_busy (on : q.role ≠ .disabled) (busy : q.reception = .busy) (p : Port) (b : Byte)
    (stopBit : Bool) : q.receive p b stopBit = { q with disturbed := true } := by
  rw [PortRecord.receive, if_neg on, busy]

/-- The byte after SYNC is LEN, and starts a frame of 1 to 33 bytes (R157, R158). -/
theorem PortRecord.frameByte_len (q : PortRecord) (p : Port) (b : Byte) :
    q.frameByte p [] b = if b.toNat = 0 ∨ 33 < b.toNat then q.receptionFault else q.gather [b] := by
  have zero : b = 0 ↔ b.toNat = 0 := Byte.eq_zero_iff b
  simp only [PortRecord.frameByte, Config.requestLenMax, zero]

/-- A byte before CHECK is gathered (R158). -/
theorem PortRecord.frameByte_before_check (q : PortRecord) (p : Port) {len : Byte} {rest : List Byte} (b : Byte)
    (h : rest.length < len.toNat) : q.frameByte p (len :: rest) b = q.gather (len :: rest ++ [b]) := by
  rw [PortRecord.frameByte, if_pos h]

/-- CHECK completes the frame: its sum decides whether it is a good one (R157, R158). -/
theorem PortRecord.frameByte_check (q : PortRecord) (p : Port) {len cmd : Byte} {ps : List Byte} (check : Byte)
    (h : ps.length + 1 = len.toNat) :
    q.frameByte p (len :: cmd :: ps) check =
      if byteSum (len :: cmd :: ps ++ [check]) = 0 then q.goodFrame p cmd ps else q.receptionFault := by
  rw [PortRecord.frameByte, if_neg (by simp [h])]
  rfl

end Reception

/-! ## RX_BYTE (R156, R158) -/

section ByteTaken
variable {s : State} {p : Port} {b : Byte} {stopBit : Bool}

theorem exec_rxByte (running : s.inReset = false) (p : Port) (b : Byte) (stopBit : Bool) :
    exec (.rxByte p b stopBit) s = .next (s.modPort p (fun q => q.receive p b stopBit)) :=
  congrArg Host.Outcome.next (State.whenRunning_of_running running _)

/-- What a byte does is told by what the port's record makes of it. -/
theorem exec_rxByte_of_receive (running : s.inReset = false) {g : PortRecord → PortRecord}
    (h : (s.port p).receive p b stopBit = g (s.port p)) :
    exec (.rxByte p b stopBit) s = .next (s.modPort p g) := by
  rw [exec_rxByte running, State.modPort_congr (g' := g) h]

/-- A byte that the port's record ignores does nothing. -/
theorem exec_rxByte_of_ignored (running : s.inReset = false) (h : (s.port p).receive p b stopBit = s.port p) :
    exec (.rxByte p b stopBit) s = .next s := by
  rw [exec_rxByte running, State.modPort_self h]

end ByteTaken

/-- Settles O6: the reception state tells what a byte does, a reception fault being the same in all its cases. -/
theorem aByteIsTakenByReceptionState : Obligations.AByteIsTakenByReceptionState := by
  intro p b stopBit s running
  refine ⟨fun off => exec_rxByte_of_ignored running (PortRecord.receive_of_disabled off p b stopBit),
    fun on => ⟨fun hunts => ?_, fun got gathers bad => ?_, fun gathers stop low high => ?_,
      fun len rest gathers stop before => ?_, fun busy => ?_⟩⟩
  · have taken := PortRecord.receive_of_hunt on hunts p b stopBit
    by_cases sync : stopBit = true ∧ b = 0x5C
    · rw [if_pos sync]
      exact exec_rxByte_of_receive running (taken.trans (if_pos sync))
    · rw [if_neg sync]
      exact exec_rxByte_of_ignored running (taken.trans (if_neg sync))
  · have fault : (s.port p).receive p b stopBit = (s.port p).receptionFault := by
      rw [PortRecord.receive_of_frame on gathers]
      obtain rfl | ⟨rfl, range⟩ := bad
      · rfl
      · rw [PortRecord.frameByte_len, if_pos range, ite_self]
    exact exec_rxByte_of_receive running (fault.trans (PortRecord.receptionFault_eq _))
  · subst stop
    refine exec_rxByte_of_receive running ((PortRecord.receive_of_frame on gathers p b true).trans ?_)
    rw [if_pos rfl, PortRecord.frameByte_len, if_neg (by omega)]
    rfl
  · subst stop
    refine exec_rxByte_of_receive running ((PortRecord.receive_of_frame on gathers p b true).trans ?_)
    rw [if_pos rfl, PortRecord.frameByte_before_check _ _ _ before]
    rfl
  · exact exec_rxByte_of_receive running (PortRecord.receive_of_busy on busy p b stopBit)

/-! ## A complete frame (R158, R159, R161) -/

section GoodFrame
variable {q : PortRecord} {c : Command} {ps : List Byte}

/-- A frame of a command that the role does not permit is refused before its length is looked at (R159). -/
theorem PortRecord.goodFrame_of_refused (h : q.role.permits c = false) (p : Port) (ps : List Byte) :
    q.goodFrame p c.code ps = q.refuse c.code .refusedRole := by
  simp [PortRecord.goodFrame, Command.ofCode_eq_some_iff.2 rfl, h]

theorem PortRecord.goodFrame_of_bad_length (h : q.role.permits c = true) (hl : ps.length ≠ c.paramBytes) (p : Port) :
    q.goodFrame p c.code ps = q.refuse c.code .badLength := by
  simp [PortRecord.goodFrame, Command.ofCode_eq_some_iff.2 rfl, h, hl]

/-- A frame that passes every check passes its request on (R159). -/
theorem PortRecord.goodFrame_of_passed {p : Port} {i : Instr} (h : q.role.permits c = true)
    (he : encodeRequest i = some (p, c, ps)) :
    q.goodFrame p c.code ps = { q with reception := .busy, interByte := none, request := some i, response := none } := by
  have length := requestsHaveTheirParameterCount i p c ps he
  simp [PortRecord.goodFrame, Command.ofCode_eq_some_iff.2 rfl, h, length, decodeRequest_of_encodeRequest he]

end GoodFrame

/-- Settles O7: the catalogue has every code once, and the checks of a complete frame come in R159's order. -/
theorem aCompleteFrameIsCheckedInOrder : Obligations.ACompleteFrameIsCheckedInOrder := by
  refine ⟨fun b c n => ⟨Command.ofCode_eq_some_iff, ?_⟩, fun p len cmd check ps s running on gathers complete => ?_⟩
  · cases c <;> simp [Command.code, Command.paramBytes, eq_comm]
  · have taken : (s.port p).receive p check true =
        if byteSum (len :: cmd :: ps ++ [check]) = 0 then (s.port p).goodFrame p cmd ps
        else (s.port p).receptionFault := by
      rw [PortRecord.receive_of_frame on gathers, if_pos rfl, PortRecord.frameByte_check _ _ _ complete]
    refine ⟨fun bad => ?_, fun good => ?_⟩
    · exact exec_rxByte_of_receive running ((taken.trans (if_neg bad)).trans (PortRecord.receptionFault_eq _))
    · rw [if_pos good] at taken
      refine ⟨fun unknown => ?_, fun c known refused => ?_, fun c known permits long => ?_, fun c known permits fits => ?_⟩
      · refine exec_rxByte_of_receive running (taken.trans ?_)
        rw [PortRecord.goodFrame, unknown]
        rfl
      all_goals obtain rfl := Command.ofCode_eq_some_iff.1 known
      · exact exec_rxByte_of_receive running (taken.trans (PortRecord.goodFrame_of_refused refused p ps))
      · exact exec_rxByte_of_receive running (taken.trans (PortRecord.goodFrame_of_bad_length permits long p))
      · obtain ⟨i, -, encoded⟩ := exists_decodeRequest p fits
        exact ⟨i, encoded, exec_rxByte_of_receive running (taken.trans (PortRecord.goodFrame_of_passed permits encoded))⟩

/-! ## A request frame, byte by byte (R157 to R161) -/

theorem runAll_cons {c : Instr} {s t : State} (h : exec c s = .next t) (rest : List Instr) :
    runAll (c :: rest) s = runAll rest t := by rw [runAll, h]

/-- The state in which a port has taken these bytes since SYNC. -/
def State.gathering (s : State) (p : Port) (got : List Byte) : State := s.modPort p (fun q => q.gather got)

section Gathering
variable {s : State} {p : Port} {got : List Byte} {b : Byte}

/-- A byte in FRAME, where what it makes of the port's record rests on no byte taken before. -/
theorem exec_rxByte_gathering (running : s.inReset = false) (on : (s.port p).role ≠ .disabled)
    {g : PortRecord → PortRecord} (taken : ((s.port p).gather got).frameByte p got b = g (s.port p)) :
    exec (.rxByte p b true) (s.gathering p got) = .next (s.modPort p g) := by
  have record : (s.gathering p got).port p = (s.port p).gather got := s.port_modPort_same p _
  have received : ((s.gathering p got).port p).receive p b true = g (s.port p) := by
    rw [record, PortRecord.receive_of_frame (q := (s.port p).gather got) on rfl, if_pos rfl, taken]
  rw [exec_rxByte_of_receive (s := s.gathering p got) (g := fun _ => g (s.port p)) running received,
    State.gathering, State.modPort_modPort]
  rfl

/-- The bytes of a frame between LEN and CHECK are gathered one after the other. -/
theorem runAll_gathers (running : s.inReset = false) (on : (s.port p).role ≠ .disabled) (len : Byte) (bs : List Byte) :
    ∀ rest : List Byte, rest.length + bs.length ≤ len.toNat → ∀ more : List Instr,
      runAll (bs.map (fun b => Instr.rxByte p b true) ++ more) (s.gathering p (len :: rest)) =
        runAll more (s.gathering p (len :: rest ++ bs)) := by
  induction bs with
  | nil => exact fun rest _ more => by rw [List.append_nil]; rfl
  | cons b bs ih =>
    intro rest fits more
    rw [List.length_cons] at fits
    have taken : exec (.rxByte p b true) (s.gathering p (len :: rest)) = .next (s.gathering p (len :: (rest ++ [b]))) :=
      exec_rxByte_gathering running on (PortRecord.frameByte_before_check _ p b (by omega))
    rw [List.map_cons, List.cons_append, runAll_cons taken, ih (rest ++ [b]) (by simp; omega)]
    simp

/-- A port in HUNT takes the frame of a request that its role permits, and passes the request on. -/
theorem runAll_requestFrame {i : Instr} {c : Command} {ps : List Byte} (he : encodeRequest i = some (p, c, ps))
    (may : s.MayRequest p c) (hunts : (s.port p).reception = .hunt) :
    runAll ((requestFrame c ps).map (fun b => .rxByte p b true)) s =
      some (s.modPort p (fun q =>
        { q with reception := .busy, interByte := none, request := some i, response := none })) := by
  obtain ⟨running, permits, -⟩ := may
  have on := Role.ne_disabled_of_permits permits
  have short : ps.length ≤ 11 := by
    rw [requestsHaveTheirParameterCount i p c ps he]
    exact Command.paramBytes_le c
  have len : (byteOf (ps.length + 1)).toNat = ps.length + 1 := byteOf_toNat (by omega)
  have sync : exec (.rxByte p Config.syncRequest true) s = .next (s.gathering p []) := by
    refine exec_rxByte_of_receive running ((PortRecord.receive_of_hunt on hunts p _ true).trans ?_)
    rfl
  have first : exec (.rxByte p (byteOf (ps.length + 1)) true) (s.gathering p []) =
      .next (s.gathering p [byteOf (ps.length + 1)]) := by
    refine exec_rxByte_gathering running on ((PortRecord.frameByte_len _ p _).trans ?_)
    rw [if_neg (by omega)]
    rfl
  have last : exec (.rxByte p (checkOf (byteOf (ps.length + 1) :: c.code :: ps)) true)
      (s.gathering p (byteOf (ps.length + 1) :: c.code :: ps)) =
      .next (s.modPort p (fun q =>
        { q with reception := .busy, interByte := none, request := some i, response := none })) := by
    refine exec_rxByte_gathering running on ((PortRecord.frameByte_check _ p _ len.symm).trans ?_)
    rw [if_pos (byteSum_checked _)]
    exact PortRecord.goodFrame_of_passed permits he
  have gathered := runAll_gathers running on (byteOf (ps.length + 1)) (c.code :: ps) []
    (by rw [len, List.length_nil, List.length_cons]; omega)
  simp only [requestFrame, List.map_cons, List.map_append, List.map_nil, List.cons_append] at gathered ⊢
  rw [runAll_cons sync, runAll_cons first]
  exact (gathered _).trans (runAll_cons last [])

end Gathering

/-- Settles O5: the layout of a frame and of every request's parameters, and the run of a frame's bytes. -/
theorem aFrameOnTheLinePassesOnItsRequest : Obligations.AFrameOnTheLinePassesOnItsRequest := by
  refine ⟨fun c ps fits => ⟨byteOf (ps.length + 1), checkOf (byteOf (ps.length + 1) :: c.code :: ps), rfl,
    byteOf_toNat (by omega), byteSum_checked _⟩, fun p x y z m e => ?_, fun i p c ps s he may hunts => ?_⟩
  · refine ⟨rfl, rfl, rfl, rfl, rfl, rfl, rfl, rfl, rfl, rfl, rfl, rfl, rfl, rfl, rfl, rfl, rfl, rfl, rfl, rfl, rfl, rfl,
      rfl, rfl, rfl, rfl, rfl, rfl, rfl, rfl, rfl⟩
  · exact runAll_requestFrame he may hunts

/-! ## The port timers and the end of a response (R158, R168) -/

/-- Settles O8: each expiry and the response's end act in their time, and otherwise the guard of the row fails. -/
theorem portTimersAndTheEndOfAResponse : Obligations.PortTimersAndTheEndOfAResponse := by
  intro p s running
  have next : ∀ act : State → State, Host.Outcome.next (s.whenRunning act) =
      (.next (act s) : Host.Outcome State Fault Refusal) := fun act => by rw [State.whenRunning_of_running running]
  refine ⟨fun stalled => (next _).trans ?_, fun sent => (next _).trans ?_, fun lingered => (next _).trans ?_,
    fun running => (next _).trans ?_, fun silent => (next _).trans ?_, fun running => (next _).trans ?_⟩
  · rw [if_pos stalled]
    exact congrArg Host.Outcome.next (State.modPort_congr (PortRecord.receptionFault_eq _))
  · rw [if_pos sent]
    refine congrArg Host.Outcome.next (State.modPort_congr ?_)
    cases disturbed : (s.port p).disturbed <;> simp [saturate_eq]
  · rw [if_pos lingered]
  · rw [if_neg running]
  · rw [if_neg (by simp [silent])]
  · rw [if_neg running]

end Sys2Proof.Machine
end

section
/-! # Requests and responses at a port: roles, frames, attention, and the reset (R156 to R164, R169, R172) -/

namespace Sys2Proof.Machine

/-! ## What a role permits (R156, R161) -/

theorem Role.disabled_permits (c : Command) : Role.disabled.permits c = false := by simp [Role.permits]

theorem Role.watch_permits (c : Command) :
    Role.watch.permits c = true ↔
      c ∈ [.readDistrict, .readDistrictStats, .readFeed, .readQueue, .readSettings, .readChainEntry, .readSnapshot,
        .readEvents, .readPortStatus, .setAttention] := by
  cases c <;> decide

theorem Role.operate_permits (c : Command) :
    Role.operate.permits c = true ↔ Role.watch.permits c = true ∨
      c ∈ [.enable, .disable, .hold, .release, .clear, .markSeen, .snapshot, .snapshotKeep] := by
  cases c <;> decide

theorem Role.full_permits (c : Command) :
    Role.full.permits c = true ↔ Role.operate.permits c = true ∨
      c ∈ [.setDistrict, .setFeed, .setChainEntry, .apply, .applyChains, .save, .cycleFeed, .haltWalk, .resumeWalk,
        .endWalk, .clearWalkErrors, .releaseForeign, .resetStats] := by
  cases c <;> decide

/-! ## A request, by its port (R156, R158, R159) -/

/-- The row of a request is served. -/
theorem exec_of_encodeRequest {i : Instr} {p : Port} {c : Command} {ps : List Byte}
    (h : encodeRequest i = some (p, c, ps)) : ∃ body, ∀ s, exec i s = .next (s.serve i body) := by
  cases i with
  | powerOn _ | resetPin _ | sampleArrival _ _ | coolDownExpiry _ | settleExpiry _ | deadTimeExpiry _
  | lineChange _ _ | debounceExpiry _ | pauseExpiry _ | lingerExpiry _ | interByteTimeout _ | rxByte _ _ _
  | responseEnd _ | storeWriteEnd _ | resetAsserted => cases h
  | _ => exact ⟨_, fun _ => rfl⟩

/-- A request that its port has passed on is served as at the port in HUNT. -/
theorem State.serve_of_waiting {i : Instr} {p : Port} {c : Command} {ps : List Byte}
    (he : encodeRequest i = some (p, c, ps)) {s : State} (running : s.inReset = false)
    (on : (s.port p).role ≠ .disabled) (busy : (s.port p).reception = .busy) (waits : (s.port p).request = some i)
    (body : State → State × Reply) :
    s.serve i body = (s.modPort p (fun q => { q with reception := .hunt, request := none })).serve i body := by
  have hunts : ((s.modPort p (fun q => { q with reception := .hunt, request := none })).port p).reception ≠ .busy := by
    simp
  rw [State.serve_eq he, State.serve_eq he, State.takeRequest_of_not_busy hunts, State.takeRequest_of_busy busy,
    PortRecord.engaged_of_waiting waits, PortRecord.engaged_of_not_busy hunts]
  simp [running, on]

/-- Settles O9: the roles command by command, and the ways in which a request is served. -/
theorem aRoleLimitsWhatAPortMayDo : Obligations.ARoleLimitsWhatAPortMayDo := by
  refine ⟨fun c => ⟨Role.disabled_permits c, Role.watch_permits c, Role.operate_permits c, Role.full_permits c⟩,
    fun i p c ps s he running => ?_⟩
  obtain ⟨body, served⟩ := exec_of_encodeRequest he
  simp only [served]
  refine ⟨fun off => ?_, fun on busy other => ?_, fun on busy waits => ?_, fun on refused free => ?_⟩
  · rw [State.serve_of_disabled he off]
  · have engaged : (s.port p).engaged i = true := by simp [PortRecord.engaged, busy, other]
    rw [State.serve_of_engaged he running on engaged]
  · rw [State.serve_of_waiting he running on busy waits]
  · rw [State.serve_of_refused he running on refused free]

/-! ## Response frames (R157, R160) -/

/-- Settles O10: the bytes of each quantity, and a response frame built around its covered bytes. -/
theorem aResponseFrameSumsToZero : Obligations.AResponseFrameSumsToZero := by
  refine ⟨rfl, fun n => ⟨rfl, rfl, rfl, rfl, rfl, halfBytes_eq⟩, byteSum_toNat,
    fun s p cmd reply g => ⟨rfl, fun r => s.port_modPort p r g, rfl⟩, fun x fits => ?_⟩
  exact ⟨byteOf (x.data.length + 2), checkOf (byteOf (x.data.length + 2) :: x.cmd :: x.status.code :: x.data), rfl,
    byteOf_toNat (by omega), byteSum_checked _⟩

/-! ## RESET_ASSERTED (R159, R171, R172) -/

/-- Settles O13: in reset every output is low or released, and only ports and store are touched. -/
theorem resetDrivesEveryOutputLow : Obligations.ResetDrivesEveryOutputLow := by
  intro s
  refine ⟨{ s with inReset := true, ports := s.ports.map PortRecord.silenced, nv := s.nv.cutOff }, rfl, rfl,
    fun d => ⟨rfl, rfl⟩, fun p => ⟨rfl, rfl⟩, fun p => ?_, rfl, rfl, rfl, rfl, rfl, rfl, Nv.cutOff_of_idle,
    fun writing => ?_⟩
  · cases p <;> exact ⟨rfl, rfl, rfl⟩
  · obtain ⟨w, writes⟩ := Option.isSome_iff_exists.1 writing
    simp [Nv.cutOff, writes]

/-! ## READ-PORT-STATUS and SET-ATTENTION (R164, R168, R169) -/

/-- The 8 status bytes, the attention output among the flags (R164). -/
theorem State.statusBytes_eq {s : State} (running : s.inReset = false) (p : Port) :
    (s.port p).statusBytes =
      [(match (s.port p).role with
         | .disabled => 0
         | .watch => 1
         | .operate => 2
         | .full => 3),
       byteOf (s.port p).cursor.val, byteOf (s.port p).unread, byteOf (s.port p).badFrames, byteOf (s.port p).lost,
       byteOf (flagsNumber [(s.port p).overrun, s.atn p]), byteOf (s.port p).trigger.val,
       byteOf (s.port p).linger.val] := by
  have role : byteOf (roleCode (s.port p).role) = match (s.port p).role with
      | .disabled => 0
      | .watch => 1
      | .operate => 2
      | .full => 3 := by cases (s.port p).role <;> rfl
  have flags : bit (s.port p).overrun + 2 * bit (s.port p).attention = flagsNumber [(s.port p).overrun, s.atn p] := by
    simp [flagsNumber, bit, State.atn, running]
  rw [PortRecord.statusBytes, role, flags]

theorem attentionCode_of_le {b : Byte} (h : b.toNat ≤ 4) : attentionCode b = some (Fin.ofNat 5 b.toNat) := by
  have code : (⟨b.toNat, by omega⟩ : Fin 5) = Fin.ofNat 5 b.toNat := Fin.ext (Nat.mod_eq_of_lt (by omega)).symm
  rw [attentionCode, dif_pos (by omega), code]

theorem attentionCode_of_gt {b : Byte} (h : 4 < b.toNat) : attentionCode b = none := by
  rw [attentionCode, dif_neg (by omega)]

theorem State.setAttention_of_unknown {trigger linger : Byte} (h : 4 < trigger.toNat ∨ 4 < linger.toNat) (p : Port)
    (s : State) :
    State.setAttention p trigger linger s = (s, { status := .badTarget, data := (s.port p).attentionBytes }) := by
  unfold State.setAttention
  split
  case _ t l known known' =>
    obtain high | high := h
    · rw [attentionCode_of_gt high] at known
      cases known
    · rw [attentionCode_of_gt high] at known'
      cases known'
  case _ => rfl

theorem State.setAttention_of_known {trigger linger : Byte} (h : trigger.toNat ≤ 4) (h' : linger.toNat ≤ 4) (p : Port)
    (s : State) :
    State.setAttention p trigger linger s =
      (s.modPort p (fun q => q.setAttention (Fin.ofNat 5 trigger.toNat) (Fin.ofNat 5 linger.toNat)),
        Reply.ok [trigger, linger]) := by
  rw [State.setAttention, attentionCode_of_le h, attentionCode_of_le h']

/-- The linger that a code sets, as R161 lists them. -/
theorem lingerOf_ofNat (n : Nat) : n ≤ 4 →
    lingerOf (Fin.ofNat 5 n) = match n with
      | 1 => some 10
      | 2 => some 50
      | 3 => some 200
      | 4 => some 1000
      | _ => none := by
  intro known
  interval_cases n <;> rfl

/-- Settles O42: the status is read before the counts are cleared, and a code out of range has no effect. -/
theorem portStatusAndAttention : Obligations.PortStatusAndAttention := by
  rintro p s q rfl
  refine ⟨fun may option known => ?_, fun may trigger linger => ⟨fun unknown => ?_, fun low low' => ?_⟩⟩
  · show Host.Outcome.next (s.serve (.readPortStatus p option) _) = _
    rw [may.serve rfl]
    obtain ⟨running, -⟩ := may
    obtain rfl | rfl : option = 0 ∨ option = 1 := by
      rw [Byte.eq_zero_iff, Byte.eq_one_iff]
      omega
    all_goals
      refine congrArg Host.Outcome.next ?_
      exact congrArg (fun bs => State.respond _ p 0x18 (Reply.ok bs)) (State.statusBytes_eq running p)
  · show Host.Outcome.next (s.serve (.setAttention p trigger linger) _) = _
    rw [may.serve rfl, State.setAttention_of_unknown unknown]
    rfl
  · show Host.Outcome.next (s.serve (.setAttention p trigger linger) _) = _
    rw [may.serve rfl, State.setAttention_of_known low low']
    dsimp only
    refine congrArg Host.Outcome.next ?_
    refine congrArg (fun t => State.respond t p 0x19 (Reply.ok [trigger, linger])) (State.modPort_congr ?_)
    have timer : (if 0 < (s.port p).unread then lingerOf (Fin.ofNat 5 linger.toNat) else none) =
        if (s.port p).unread = 0 then none else lingerOf (Fin.ofNat 5 linger.toNat) := by
      simp only [Nat.pos_iff_ne_zero, ite_not]
    rw [PortRecord.setAttention, timer]
    exact congrArg (fun ms => ({ s.port p with
      trigger := Fin.ofNat 5 trigger.toNat, linger := Fin.ofNat 5 linger.toNat, lingerExpired := false
      lingerTimer := if (s.port p).unread = 0 then none else ms } : PortRecord)) (lingerOf_ofNat _ low')

end Sys2Proof.Machine
end

section
/-! # What the owners' acts leave at the ports: appended events (R166) -/

namespace Sys2Proof.Machine

/-! ## Appends -/

/-- What the port laws read of a state: the write position of the ring, and the ports. -/
def State.reported (s : State) : RingPos × PortTable := (s.ring.write, s.ports)

/-- What one append does there (R166). -/
def appendOnce (v : RingPos × PortTable) : RingPos × PortTable := (v.1 + 1, v.2.map PortRecord.onAppend)

/-- Between `s` and `t` some events have been appended; the ports and the write position differ by nothing else. -/
def Appends (s t : State) : Prop := ∃ n, t.reported = appendOnce^[n] s.reported

namespace Appends
variable {s t u : State}

theorem same (h : t.reported = s.reported) : Appends s t := ⟨0, h⟩

theorem once (h : t.reported = appendOnce s.reported) : Appends s t := ⟨1, h⟩

theorem post (s : State) (ev : Event) : Appends s (s.post ev) := once rfl

theorem modFeed (s : State) (f : FeedId) (g : Feed → Feed) : Appends s (s.modFeed f g) := same rfl

theorem modDistrict (s : State) (d : DistrictId) (g : District → District) : Appends s (s.modDistrict d g) := same rfl

theorem refl (s : State) : Appends s s := same rfl

theorem trans (h : Appends s t) (k : Appends t u) : Appends s u := by
  obtain ⟨m, first⟩ := h
  obtain ⟨n, second⟩ := k
  exact ⟨n + m, by rw [second, first, Function.iterate_add_apply]⟩

/-- An act after something that is beside ring and ports. -/
theorem after {s' : State} (h : Appends s' t) (e : s'.reported = s.reported) : Appends s t :=
  (same e).trans h

/-- An act after one append. -/
theorem afterOnce {s' : State} (h : Appends s' t) (e : s'.reported = appendOnce s.reported) : Appends s t :=
  (once e).trans h

theorem records (h : OnlyRecords s t) : Appends s t :=
  same (by simp only [State.reported, h.ring, h.ports])

theorem ite {c : Prop} [Decidable c] (h : Appends s t) (k : Appends s u) : Appends s (if c then t else u) := by
  split
  · exact h
  · exact k

/-- What is done for each of some numbers in turn. -/
theorem foldl {α : Type} {act : State → α → State} (h : ∀ s a, Appends s (act s a)) (as : List α) (s : State) :
    Appends s (as.foldl act s) := by
  induction as generalizing s with
  | nil => exact refl s
  | cons a as ih => exact (h s a).trans (ih _)

/-! ## The arbiter (chapters 02 to 05) -/

theorem runGrantRule (s : State) (f : FeedId) : Appends s (s.runGrantRule f) := records (.runGrantRule s f)

theorem join (s : State) (f : FeedId) (d : DistrictId) : Appends s (s.join f d) := after (runGrantRule _ f) (by rfl)

theorem returnToService (s : State) (d : DistrictId) : Appends s (s.returnToService d) :=
  records (.returnToService s d)

theorem tripOrLatch (s : State) (d : DistrictId) (cause : Cause) : Appends s (s.tripOrLatch d cause) :=
  ite (once rfl) (same rfl)

theorem endGrace (s : State) (v : DistrictId) : Appends s (s.endGrace v) := by
  unfold State.endGrace
  split <;> exact same rfl

theorem abandonSwap (s : State) (d : DistrictId) : Appends s (s.abandonSwap d) := ite (endGrace s d) (same rfl)

theorem darken (f : FeedId) (s : State) (d : DistrictId) : Appends s (s.darken f d) :=
  (abandonSwap s d).trans (same rfl)

theorem capture (s : State) (f : FeedId) : Appends s (s.capture f) :=
  after (foldl (fun u d => modDistrict u d _) _ (s.modFeed f _)) (by rfl)

/-! ## The walker (chapter 06) -/

theorem settleDark (f : FeedId) (s : State) (d : DistrictId) : Appends s (s.settleDark f d) :=
  ite (once rfl) (same rfl)

theorem copyWaitingChains (s : State) : Appends s s.copyWaitingChains := ite (once rfl) (same rfl)

theorem endWalk (s : State) (f : FeedId) (o : Origin) (why : EndReason) : Appends s (s.endWalk f o why) := by
  have settled : Appends s (((s.modWalk f (fun w => w.stopped why.lastEnd)).inState f .dark).foldl (State.settleDark f)
      (s.modWalk f (fun w => w.stopped why.lastEnd))) := after (foldl (settleDark f) _ _) (by rfl)
  exact settled.trans (afterOnce ((runGrantRule _ f).trans (copyWaitingChains _)) (by rfl))

theorem admitFrom (f : FeedId) (ms : List DistrictId) (s : State) : Appends s (admitFrom f ms s) := by
  induction ms generalizing s with
  | nil => exact refl s
  | cons m rest ih =>
    unfold Machine.admitFrom
    exact ite (ite (once rfl) (after (ih _) (by rfl)))
      (ite (after (ih _) (by rfl)) (ite (after (ih _) (by rfl)) (same rfl)))

theorem runAdmission (s : State) (f : FeedId) : Appends s (s.runAdmission f) := admitFrom f _ s

theorem pauseOrLink {f : FeedId} {visit : Position → State → State} (hv : ∀ pos s, Appends s (visit pos s))
    (s : State) : Appends s (s.pauseOrLink visit f) := by
  unfold State.pauseOrLink
  refine ite (same rfl) ?_
  split
  · exact endWalk s f _ _
  · exact hv _ s

theorem complete {f : FeedId} {visit : Position → State → State} (hv : ∀ pos s, Appends s (visit pos s))
    (s : State) : Appends s (s.complete visit f) := by
  have reported : Appends s (s.postEntryDone f) := once rfl
  exact ite (ite (reported.trans (same rfl)) (reported.trans (pauseOrLink hv _))) (same rfl)

theorem visit (n : Nat) (f : FeedId) (pos : Position) (s : State) : Appends s (visit n f pos s) := by
  induction n generalizing pos s with
  | zero => exact refl s
  | succ n ih =>
    unfold Machine.visit
    exact ite (after (endWalk _ f _ _) (by rfl)) ((after (runAdmission _ f) (by rfl)).trans (complete ih _))

theorem visitEntry (f : FeedId) (pos : Position) (s : State) : Appends s (s.visitEntry f pos) := visit _ f pos s

theorem followLink (s : State) (f : FeedId) : Appends s (s.followLink f) := by
  unfold State.followLink
  split
  · exact endWalk s f _ _
  · exact visitEntry f _ s

theorem startWalk (s : State) (f : FeedId) (o : Origin) (reason : Nat) : Appends s (s.startWalk f o reason) := by
  unfold State.startWalk
  dsimp only
  split
  · exact afterOnce (endWalk _ f _ _) (by rfl)
  · exact afterOnce (visitEntry f _ _) (by rfl)

theorem resumeEntry (s : State) (f : FeedId) : Appends s (s.resumeEntry f) :=
  (runAdmission s f).trans (complete (visitEntry f) _)

theorem resumeWalk (s : State) (p : Port) (f : FeedId) : Appends s (s.resumeWalk p f) := by
  unfold State.resumeWalk
  dsimp only
  split
  · exact afterOnce (pauseOrLink (visitEntry f) _) (by rfl)
  · exact afterOnce (resumeEntry _ f) (by rfl)
  all_goals exact once rfl

theorem walkNotice (s : State) (f : FeedId) (d : DistrictId) (o : NoticeOutcome) :
    Appends s (s.walkNotice f d o) := by
  unfold State.walkNotice
  have halt : ∀ u : State, Appends u (if o = .failed ∧ (u.fset f).haltOnError = true ∧ (u.feed f).state = .walking
      then u.haltWalk f .device (.memberFailed d) else u) := fun u => ite (once rfl) (same rfl)
  have retry : ∀ u : State, Appends u (if (u.feed f).state = .walking ∧ (u.walk f).waiting = true
      then u.runAdmission f else u) := fun u => ite (runAdmission u f) (same rfl)
  exact ite (same rfl) ((after (halt _) (by rfl)).trans ((retry _).trans (complete (visitEntry f) _)))

/-! ## Notices and copies (R113, R115, R149 to R153) -/

theorem copyFeed (s : State) (f : FeedId) : Appends s (s.copyFeed f) := after (runGrantRule _ f) (by rfl)

theorem copyWaitingFeed (s : State) (f : FeedId) : Appends s (s.copyWaitingFeed f) :=
  ite (afterOnce (runGrantRule _ f) (by rfl)) (same rfl)

theorem soakEndNotice (s : State) (f : FeedId) (d : DistrictId) (c : SoakContext) (o : NoticeOutcome) :
    Appends s (s.soakEndNotice f d c o) := by
  have noticed : ∀ u : State, Appends u (if c.origin = .individual then u else u.walkNotice f d o) :=
    fun u => ite (same rfl) (walkNotice u f d o)
  exact (after (noticed _) (by rfl)).trans ((runGrantRule _ f).trans (copyWaitingFeed _ f))

theorem correct (s : State) (named : Half) (o : Origin) (d : DistrictId) : Appends s (s.correct named o d) :=
  ite (once rfl) (same rfl)

theorem setCopied (s : State) (d : DistrictId) : Appends s (s.setCopied d) :=
  same (by simp only [State.reported, State.setCopied])

theorem copyDistrict {s : State} {d : DistrictId} (free : (s.district d).state.defersApply = false) :
    Appends s (s.copyDistrict d) := (setCopied s d).trans (records (.copyDistrict free))

theorem deferredCopy (s : State) (d : DistrictId) : Appends s (s.deferredCopy d) := by
  unfold State.deferredCopy
  dsimp only
  split
  case isTrue due =>
    simp only [Bool.and_eq_true, Bool.not_eq_true'] at due
    exact (correct s 0 .device d).trans (afterOnce (copyDistrict (by simpa using due.2)) (by rfl))
  case isFalse => exact same rfl

/-! ## Samples (chapters 02 to 04) -/

theorem trip (s : State) (d : DistrictId) (why : Condition) (figure : Nat) : Appends s (s.trip d why figure) :=
  afterOnce (tripOrLatch _ d _) (by rfl)

theorem soakFail (s : State) (d : DistrictId) (c : SoakContext) (why : SoakFailure) :
    Appends s (s.soakFail d c why) :=
  (afterOnce (tripOrLatch _ d _) (by rfl)).trans ((soakEndNotice _ _ d c _).trans (deferredCopy _ d))

theorem soakPass (s : State) (d : DistrictId) (c : SoakContext) : Appends s (s.soakPass d c) :=
  (afterOnce (soakEndNotice _ _ d c _) (by rfl)).trans (deferredCopy _ d)

theorem swapTrigger (s : State) (v : DistrictId) : Appends s (s.swapTrigger v) := by
  unfold State.swapTrigger
  dsimp only
  split
  · exact same rfl
  · exact ite (same rfl) (same rfl)

theorem swapSuccess (s : State) (v : DistrictId) : Appends s (s.swapSuccess v) :=
  (afterOnce (endGrace _ v) (by rfl)).trans (deferredCopy _ v)

theorem swapFail (s : State) (v : DistrictId) (test figure : Nat) : Appends s (s.swapFail v test figure) :=
  (afterOnce (endGrace _ v) (by rfl)).trans ((tripOrLatch _ v _).trans (deferredCopy _ v))

theorem judgeOccupancy (s : State) (d : DistrictId) : Appends s (s.judgeOccupancy d) :=
  ite (ite (once rfl) (same rfl)) (same rfl)

theorem evaluatePlain (s : State) (d : DistrictId) (x : Nat) : Appends s (s.evaluatePlain d x) := by
  have excused : ∀ figure, Appends s (s.excuse d figure) := fun _ => once rfl
  have live : Appends s (s.evaluateLive d x) :=
    ite (ite (trip s d _ _) (ite ((excused x).trans (trip _ d _ _)) (excused x))) (ite (trip s d _ _) (same rfl))
  exact ite (same rfl) (ite (same rfl) live)

theorem evaluatePartner (s : State) (d : DistrictId) (x : Nat) : Appends s (s.evaluatePartner d x) := by
  have resolved : ∀ df, Appends s (s.resolveDeferral d df) := fun df => ite (once rfl) (after (trip _ d _ _) (by rfl))
  unfold State.evaluatePartner
  refine ite (same rfl) ?_
  split
  · exact evaluatePlain s d x
  · exact ite ((resolved _).trans (evaluatePlain _ d x)) (resolved _)

theorem evaluateReversing (s : State) (d : DistrictId) (x : Nat) : Appends s (s.evaluateReversing d x) :=
  ite (swapTrigger s d) (ite (ite (swapTrigger s d) (trip s d _ _)) (same rfl))

theorem evaluateCheck (s : State) (d : DistrictId) (x : Nat) : Appends s (s.evaluateCheck d x) :=
  ite (swapFail s d _ _) (ite (swapFail s d _ _) (ite (after (swapSuccess _ d) (by rfl)) (same rfl)))

theorem evaluateSoak (s : State) (d : DistrictId) (x : Nat) : Appends s (s.evaluateSoak d x) := by
  unfold State.evaluateSoak
  split
  · exact same rfl
  · exact ite (soakFail s d _ _) (ite (soakFail s d _ _) (ite (ite (soakPass s d _) (soakFail s d _ _)) (same rfl)))

theorem takeSample (s : State) (d : DistrictId) (x : Nat) : Appends s (s.takeSample d x) := by
  have evaluated : ∀ u : State, Appends u (u.evaluate d x) := fun u => by
    unfold State.evaluate
    split
    · exact evaluateSoak u d x
    · exact evaluateCheck u d x
    · exact ite (evaluateReversing u d x) (evaluatePartner u d x)
    all_goals exact same rfl
  exact ite (same rfl) ((after (judgeOccupancy _ d) (by rfl)).trans (evaluated _))

/-! ## Entry to OFF, faults and expiries (R11, R20, R49, R83, R98 to R104, R116, R130) -/

theorem toOff (s : State) (d : DistrictId) : Appends s (s.toOff d) := by
  have left : Appends s (s.leftForOff d) := (abandonSwap s d).trans (after (records (.leaveFor _ _ d _)) (by rfl))
  rw [State.toOff_eq]
  split
  · exact left.trans (soakEndNotice _ _ d _ _)
  · exact left

theorem acceptFault (s : State) (f : FeedId) : Appends s (s.acceptFault f) := by
  have aborted : ∀ u : State, Appends u (u.abortAnyWalk f) := fun u => by
    unfold State.abortAnyWalk
    split
    · exact once rfl
    · exact once rfl
    all_goals exact same rfl
  have emptied : ∀ u : State, Appends u (u.emptied f) := fun u => after (aborted _) (by rfl)
  have taken : Appends s (s.faultTaken f) := by
    unfold State.faultTaken
    exact (capture s f).trans ((foldl (darken f) _ _).trans ((emptied _).trans ((modFeed _ f _).trans (post _ _))))
  rw [State.acceptFault_eq]
  exact taken.trans ((foldl deferredCopy _ _).trans ((copyWaitingFeed _ f).trans (copyWaitingChains _)))

theorem cycle (s : State) (p : Port) (f : FeedId) : Appends s (s.cycle p f) := by
  have begun : Appends s (s.cycleBegun f) := (foldl (darken f) _ s).trans (modFeed _ f _)
  rw [State.cycle_eq]
  exact begun.trans ((foldl deferredCopy _ _).trans (startWalk _ f _ _))

theorem lineChanges (s : State) (f : FeedId) (level : Level) : Appends s (s.lineChanges f level) := by
  unfold State.lineChanges
  refine ite (same rfl) ?_
  split
  · exact ite (after (acceptFault _ f) (by rfl)) (same rfl)
  · exact same rfl

theorem acceptHealthy (s : State) (f : FeedId) : Appends s (s.acceptHealthy f) :=
  ite (once rfl) (afterOnce (startWalk _ f _ _) (by rfl))

theorem pauseExpires (s : State) (f : FeedId) : Appends s (s.pauseExpires f) :=
  ite (after (followLink _ f) (by rfl)) (same rfl)

end Appends
end Sys2Proof.Machine
end

section
/-! # What requests leave at the ports: their owners append events (R9 to R17, R43, R116, R134 to R137, R145 to R171) -/

namespace Sys2Proof.Machine

namespace Appends
variable {s : State}

/-! ## Mask commands (R9 to R17) -/

theorem maskCommand (p : Port) (c : Command) (mask : Half) {rule : DistrictId → State → State × Verdict}
    (h : ∀ d u, Appends u (rule d u).1) (s : State) : Appends s (maskCommand p c mask rule s).1 := by
  have acted : ∀ (u : State) d, Appends u (u.acted p c rule d) := fun u d =>
    (h d u).trans ((post _ _).trans (ite (deferredCopy _ d) (same rfl)))
  have all : ∀ (ds : List DistrictId) (t : Tally), Appends t.state (ds.foldl (Tally.step p c rule) t).state := by
    intro ds
    induction ds with
    | nil => exact fun t => refl _
    | cons d ds ih =>
      refine fun t => .trans ?_ (ih _)
      rw [Tally.step_eq]
      exact ite (acted _ d) (same rfl)
  exact all (namedDistricts mask) { state := s, done := [], unchanged := [], refused := [] }

theorem enableRule (d : DistrictId) (s : State) : Appends s (enableRule d s).1 := by
  unfold Machine.enableRule
  split
  · split
    · exact after (returnToService _ d) (by rfl)
    · exact same rfl
  all_goals exact same rfl

theorem clearRule (d : DistrictId) (s : State) : Appends s (clearRule d s).1 := by
  unfold Machine.clearRule
  split
  · exact after (returnToService _ d) (by rfl)
  · exact same rfl

theorem disableRule (d : DistrictId) (s : State) : Appends s (disableRule d s).1 := by
  unfold Machine.disableRule
  split
  · exact same rfl
  · exact toOff s d

theorem holdRule (p : Port) (d : DistrictId) (s : State) : Appends s (holdRule p d s).1 := by
  unfold Machine.holdRule
  split
  · exact same rfl
  · exact ite (same rfl) (after (toOff _ d) (by rfl))

theorem markRule (test : District → Bool) (g : District → District) (d : DistrictId) (s : State) :
    Appends s (markRule test g d s).1 := by
  unfold Machine.markRule
  split <;> exact same rfl

/-- RELEASE, MARK-SEEN and RESET-STATS (R13, R14, R16, R17). -/
theorem markCommand (p : Port) (c : Command) (mask : Half) (test : District → Bool) (g : District → District)
    (s : State) : Appends s (Machine.maskCommand p c mask (Machine.markRule test g) s).1 :=
  maskCommand p c mask (markRule test g) s

theorem releaseCommand (p : Port) (c : Command) (mask : Half) (q : Port) (s : State) :
    Appends s (Machine.maskCommand p c mask (releaseRule q) s).1 := by
  rw [releaseRule_eq]
  exact markCommand p c mask _ _ s

theorem releaseForeign (p : Port) (mask : Half) (named : Byte) (s : State) :
    Appends s (releaseForeign p mask named s).1 := by
  unfold Machine.releaseForeign
  split
  · exact same rfl
  · exact releaseCommand p _ mask _ s

/-! ## Feeds and walks (R116, R134 to R137) -/

theorem feedCommand {act : FeedId → State → State × Reply} (h : ∀ f u, Appends u (act f u).1) (number : Byte)
    (s : State) : Appends s (feedCommand number act s).1 := by
  unfold Machine.feedCommand
  split
  · exact same rfl
  · exact h _ s

/-- A command on a feed is accepted, or refused without effect. -/
theorem feedRule {t : State} (h : Appends s t) {c : Prop} [Decidable c] {accepted refused : Reply} :
    Appends s (if c then (t, accepted) else (s, refused)).1 := by
  split
  · exact h
  · exact same rfl

/-! ## Settings, snapshots and the store (R43, R145 to R154, R171) -/

theorem writeDistrict (number field : Byte) (value : Half) (s : State) :
    Appends s (State.writeDistrict number field value s).1 := by
  unfold State.writeDistrict
  split
  · exact same rfl
  · split <;> exact same rfl

theorem writeFeed (number field : Byte) (value : Half) (s : State) :
    Appends s (State.writeFeed number field value s).1 := by
  unfold State.writeFeed
  split
  · exact same rfl
  · split <;> exact same rfl

theorem writeChainEntry (index : Byte) (entry : EntryBytes) (s : State) :
    Appends s (State.writeChainEntry index entry s).1 := by
  unfold State.writeChainEntry
  split <;> exact same rfl

theorem applyDistrict (p : Port) (named : Half) (t : ApplyTally) (d : DistrictId) :
    Appends t.state (t.district p named d).state := by
  unfold ApplyTally.district
  dsimp only
  split
  · dsimp only
    exact (correct _ named _ d).trans (modDistrict _ d _)
  case isFalse free =>
    dsimp only
    exact (correct _ named _ d).trans (copyDistrict (Bool.eq_false_iff.2 free))

theorem applyFeed (t : ApplyTally) (f : FeedId) : Appends t.state (t.feed f).state := by
  unfold ApplyTally.feed
  split
  · exact copyFeed _ f
  · exact same rfl

theorem applySettings (p : Port) (districts : Half) (feeds : Byte) (s : State) :
    Appends s (State.applySettings p districts feeds s).1 := by
  have each : ∀ (ds : List DistrictId) (t : ApplyTally),
      Appends t.state (ds.foldl (ApplyTally.district p districts) t).state := by
    intro ds
    induction ds with
    | nil => exact fun t => refl _
    | cons d ds ih => exact fun t => (applyDistrict p districts t d).trans (ih _)
  have feedwise : ∀ (fs : List FeedId) (t : ApplyTally), Appends t.state (fs.foldl ApplyTally.feed t).state := by
    intro fs
    induction fs with
    | nil => exact fun t => refl _
    | cons f fs ih => exact fun t => (applyFeed t f).trans (ih _)
  unfold State.applySettings
  split
  · exact same rfl
  · exact (each (namedDistricts districts) s.applyBegun).trans ((feedwise (namedFeeds feeds) _).trans
      (ite (same rfl) (post _ _)))

theorem applyChains (p : Port) (s : State) : Appends s (State.applyChains p s).1 := by
  unfold State.applyChains
  split
  · exact same rfl
  · exact once rfl

theorem saveStarts (p : Port) (s : State) : Appends s (State.saveStarts p s).1 := by
  unfold State.saveStarts
  split <;> exact same rfl

theorem writeEnds (s : State) (matched : Bool) : Appends s (s.writeEnds matched) := by
  unfold State.writeEnds
  split
  · exact same rfl
  · exact once rfl

end Appends

end Sys2Proof.Machine
end

section
/-! # Every step keeps the ports lawful beside the ring (R156, R158, R163, R166, R168) -/

namespace Sys2Proof.Machine

/-! ## One port -/

theorem PortRecord.goodFrame_role (q : PortRecord) (p : Port) (cmd : Byte) (ps : List Byte) :
    (q.goodFrame p cmd ps).role = q.role := by
  unfold PortRecord.goodFrame
  repeat' split
  all_goals rfl

theorem PortRecord.receive_role (q : PortRecord) (p : Port) (b : Byte) (stopBit : Bool) :
    (q.receive p b stopBit).role = q.role := by
  have framed : ∀ got, (q.frameByte p got b).role = q.role := fun got => by
    unfold PortRecord.frameByte
    split
    · split <;> rfl
    · split
      · rfl
      · split
        · exact q.goodFrame_role p _ _
        · rfl
  unfold PortRecord.receive
  split
  · rfl
  · split
    · split <;> rfl
    · split
      · exact framed _
      · rfl
    · rfl

/-- The write position moves on, and so does the entry `n` places behind it. -/
theorem RingPos.behind_succ {cursor write : RingPos} {n : Nat} (h : (cursor.val + n) % 128 = write.val) :
    (cursor.val + (n + 1)) % 128 = (write + 1).val := by
  rw [Fin.val_add, ← h, Fin.val_one]
  omega

namespace PortRecord.Lawful
variable {q : PortRecord} {write : RingPos}

/-- An event appended stands unread before the write position, or pushes the cursor on (R166). -/
theorem onAppend (h : q.Lawful write) : q.onAppend.Lawful (write + 1) := by
  obtain ⟨unread, bad, lost, reception, linger, behind, disabled⟩ := h
  unfold PortRecord.onAppend
  split
  case isTrue off => exact ⟨unread, bad, lost, reception, linger, fun on => absurd off on, disabled⟩
  case isFalse on =>
    split
    case isTrue room =>
      exact ⟨room, bad, lost, reception, fun _ => Nat.succ_pos _, fun _ => RingPos.behind_succ (behind on),
        fun off => absurd off on⟩
    case isFalse full =>
      refine ⟨unread, bad, saturate_le _, reception, linger, fun _ => ?_, fun off => absurd off on⟩
      have pushed : ((q.cursor + 1).val + q.unread) % 128 = (q.cursor.val + (q.unread + 1)) % 128 := by
        rw [Fin.val_add, Fin.val_one]
        omega
      exact pushed.trans (RingPos.behind_succ (behind on))

/-! ### Reception (R156, R158, R159) -/

/-- A port that is not BUSY has neither passed a request on nor a response to send. -/
theorem idle (h : q.Lawful write) (hunting : q.reception ≠ .busy) : q.request = none ∧ q.response = none := by
  obtain ⟨-, -, -, ⟨-, busy, -⟩, -⟩ := h
  have neither := fun k => hunting (busy.2 k)
  exact ⟨Option.not_isSome_iff_eq_none.1 fun k => neither (.inl k),
    Option.not_isSome_iff_eq_none.1 fun k => neither (.inr k)⟩

/-- A port's reception starts again or turns busy, its counts and its linger being left. -/
theorem withReception (h : q.Lawful write) {reception : Reception} {interByte : Timer} {disturbed : Bool}
    {bad : Nat} {request : Option Instr} {response : Option Response} (on : q.role = .disabled → reception = .hunt)
    (hbad : bad ≤ 255)
    (law : ({ q with reception := reception, interByte := interByte, disturbed := disturbed, badFrames := bad
                     request := request, response := response } : PortRecord).ReceptionLaw) :
    ({ q with reception := reception, interByte := interByte, disturbed := disturbed, badFrames := bad
              request := request, response := response } : PortRecord).Lawful write := by
  obtain ⟨unread, -, lost, -, linger, behind, disabled⟩ := h
  exact ⟨unread, hbad, lost, law, linger, behind, fun off => ⟨(disabled off).1, on off⟩⟩

theorem badFrames_le (h : q.Lawful write) : q.badFrames ≤ 255 := by
  obtain ⟨-, bad, -⟩ := h
  exact bad

/-- A reception fault discards the frame being gathered (R158). -/
theorem receptionFault (h : q.Lawful write) (gathering : q.reception ≠ .busy) : q.receptionFault.Lawful write := by
  obtain ⟨noRequest, noResponse⟩ := h.idle gathering
  exact h.withReception (fun _ => rfl) (saturate_le _)
    ⟨by simp [Reception.inFrame], by simp [noRequest, noResponse], by simp [noRequest]⟩

theorem gather (h : q.Lawful write) (on : q.role ≠ .disabled) (gathering : q.reception ≠ .busy) (got : List Byte) :
    (q.gather got).Lawful write := by
  obtain ⟨noRequest, noResponse⟩ := h.idle gathering
  exact h.withReception (fun off => absurd off on) h.badFrames_le
    ⟨by simp [Reception.inFrame], by simp [noRequest, noResponse], by simp [noRequest]⟩

/-- A port that sends a response is BUSY with it alone (R158, R159). -/
theorem responding (h : q.Lawful write) (on : q.role ≠ .disabled) (x : Response) :
    ({ q with reception := .busy, interByte := none, request := none, response := some x } : PortRecord).Lawful
      write :=
  h.withReception (fun off => absurd off on) h.badFrames_le ⟨by simp [Reception.inFrame], by simp, by simp⟩

/-- The reception of a port that is no longer BUSY (R158). -/
theorem hunting (h : q.Lawful write) {disturbed : Bool} {bad : Nat} (hbad : bad ≤ 255) :
    ({ q with reception := .hunt, interByte := none, disturbed := disturbed, badFrames := bad, request := none
              response := none } : PortRecord).Lawful write :=
  h.withReception (fun _ => rfl) hbad ⟨by simp [Reception.inFrame], by simp, by simp⟩

/-- A BUSY port gathers no frame (R158). -/
theorem quiet (h : q.Lawful write) (busy : q.reception = .busy) : q.interByte = none := by
  obtain ⟨-, -, -, ⟨frame, -, -⟩, -⟩ := h
  rw [busy] at frame
  exact Option.not_isSome_iff_eq_none.1 fun runs => Bool.false_ne_true (frame.1 runs)

/-- The end of a response leaves the port hunting, with no request (R158). -/
theorem responseEnds (h : q.Lawful write) (sends : q.response.isSome = true) {bad : Nat} (hbad : bad ≤ 255) :
    ({ q with reception := .hunt, disturbed := false, badFrames := bad, response := none } : PortRecord).Lawful
      write := by
  obtain ⟨-, -, -, ⟨-, busy, one⟩, -⟩ := id h
  have noRequest : q.request = none := Option.not_isSome_iff_eq_none.1 fun waits => one ⟨waits, sends⟩
  have noTimer : q.interByte = none := h.quiet (busy.2 (.inr sends))
  exact h.withReception (fun _ => rfl) hbad
    ⟨by simp [noTimer, Reception.inFrame], by simp [noRequest], by simp [noRequest]⟩

/-- The request of a BUSY port leaves it hunting, with no response (R159). -/
theorem requestTaken (h : q.Lawful write) (waits : q.request.isSome = true) :
    ({ q with reception := .hunt, request := none } : PortRecord).Lawful write := by
  obtain ⟨-, -, -, ⟨-, busy, one⟩, -⟩ := id h
  have silent : q.response = none := Option.not_isSome_iff_eq_none.1 fun sends => one ⟨waits, sends⟩
  have noTimer : q.interByte = none := h.quiet (busy.2 (.inl waits))
  exact h.withReception (fun _ => rfl) h.badFrames_le
    ⟨by simp [noTimer, Reception.inFrame], by simp [silent], by simp⟩

/-- A good frame is refused, or its request waits at the port (R159). -/
theorem goodFrame (h : q.Lawful write) (on : q.role ≠ .disabled) (p : Port) (cmd : Byte) (ps : List Byte) :
    (q.goodFrame p cmd ps).Lawful write := by
  unfold PortRecord.goodFrame
  split
  · exact h.responding on _
  · split
    · split
      case _ fits =>
        obtain ⟨i, decoded, -⟩ := exists_decodeRequest p fits
        rw [decoded]
        exact h.withReception (fun off => absurd off on) h.badFrames_le
          ⟨by simp [Reception.inFrame], by simp, by simp⟩
      · exact h.responding on _
    · exact h.responding on _

/-- A byte is ignored, gathered, completes a frame, or is a fault (R156, R158). -/
theorem receive (h : q.Lawful write) (p : Port) (b : Byte) (stopBit : Bool) : (q.receive p b stopBit).Lawful write := by
  by_cases on : q.role = .disabled
  · rw [PortRecord.receive_of_disabled on]
    exact h
  · rcases state : q.reception with _ | got | _
    · rw [PortRecord.receive_of_hunt on state]
      split
      · exact h.gather on (by simp [state]) []
      · exact h
    · have gathering : q.reception ≠ .busy := by simp [state]
      rw [PortRecord.receive_of_frame on state]
      split
      · unfold PortRecord.frameByte
        split
        · split
          · exact h.receptionFault gathering
          · exact h.gather on gathering _
        · split
          · exact h.gather on gathering _
          · split
            · exact h.goodFrame on p _ _
            · exact h.receptionFault gathering
      · exact h.receptionFault gathering
    · rw [PortRecord.receive_of_busy on state]
      exact h

/-! ### Counts, attention and time (R164, R167 to R169) -/

/-- The entries read are gone from the unread ones, and the cursor has passed them (R167). -/
theorem consume (h : q.Lawful write) {k : Nat} (hk : k ≤ q.unread) : (q.consume k).Lawful write := by
  obtain ⟨unread, bad, lost, reception, linger, behind, disabled⟩ := h
  refine ⟨(Nat.sub_le _ _).trans unread, bad, lost, reception, fun running => ?_, fun on => ?_, fun off => ?_⟩
  · by_contra none
    simp [PortRecord.consume, show ¬0 < q.unread - k from none] at running
  · have passed : (q.cursor + Fin.ofNat 128 k).val = (q.cursor.val + k) % 128 := by
      rw [Fin.val_add, Fin.val_ofNat, Nat.add_mod_mod]
    rw [← behind on, PortRecord.consume, passed]
    dsimp only
    omega
  · obtain ⟨none, hunts⟩ := disabled off
    exact ⟨by simp [PortRecord.consume, none], hunts⟩

theorem cleared (h : q.Lawful write) :
    ({ q with badFrames := 0, lost := 0, overrun := false } : PortRecord).Lawful write := by
  obtain ⟨unread, -, -, reception, linger, behind, disabled⟩ := h
  exact ⟨unread, Nat.zero_le _, Nat.zero_le _, reception, linger, behind, disabled⟩

/-- The linger timer is started over unread entries alone (R168). -/
theorem withLinger (h : q.Lawful write) {trigger linger : Fin 5} {timer : Timer} {expired : Bool}
    (unreadLeft : timer.isSome = true → 0 < q.unread) :
    ({ q with trigger := trigger, linger := linger, lingerTimer := timer, lingerExpired := expired } :
      PortRecord).Lawful write := by
  obtain ⟨unread, bad, lost, reception, -, behind, disabled⟩ := h
  exact ⟨unread, bad, lost, reception, unreadLeft, behind, disabled⟩

theorem tick (h : q.Lawful write) : q.tick.Lawful write := by
  obtain ⟨unread, bad, lost, ⟨frame, busy, one⟩, linger, behind, disabled⟩ := h
  exact ⟨unread, bad, lost, ⟨by simpa [PortRecord.tick, Timer.tick] using frame, busy, one⟩,
    by simpa [PortRecord.tick, Timer.tick] using linger, behind, disabled⟩

end PortRecord.Lawful

theorem resetPort_lawful (role : Role) : (resetPort role).Lawful 0 := by
  refine ⟨Nat.zero_le _, Nat.zero_le _, Nat.zero_le _, ⟨?_, ?_, ?_⟩, ?_, fun _ => rfl,
    fun _ => ⟨rfl, rfl⟩⟩ <;>
    simp [resetPort, Reception.inFrame]

/-! ## The three ports -/

/-- The port laws, port by port (R156, R158, R163, R166, R168). -/
def State.PortLaw (s : State) : Prop := ∀ p, (s.port p).Lawful s.ring.write

theorem State.portLaw_iff (s : State) : s.PortLaw ↔ s.PortsLawful :=
  ⟨fun h => ⟨h .a, h .b, h .c⟩, fun ⟨a, b, c⟩ p => by
    cases p
    · exact a
    · exact b
    · exact c⟩

/-- From `s` to `t` the port laws are kept, and every port has its role. -/
structure KeepsPorts (s t : State) : Prop where
  law : s.PortLaw → t.PortLaw
  roles : ∀ p, (t.port p).role = (s.port p).role

namespace KeepsPorts
variable {s t u : State}

theorem trans (h : KeepsPorts s t) (k : KeepsPorts t u) : KeepsPorts s u :=
  ⟨fun law => k.law (h.law law), fun p => (k.roles p).trans (h.roles p)⟩

theorem of_appends (h : Appends s t) : KeepsPorts s t := by
  obtain ⟨n, e⟩ := h
  have kept : (s.PortLaw → ∀ p, (t.reported.2.get p).Lawful t.reported.1) ∧
      ∀ p, (t.reported.2.get p).role = (s.port p).role := by
    rw [e]
    refine Function.Iterate.rec (fun v : RingPos × PortTable => (s.PortLaw → ∀ p, (v.2.get p).Lawful v.1) ∧
      ∀ p, (v.2.get p).role = (s.port p).role) ⟨id, fun _ => rfl⟩ ?_ n
    rintro v ⟨law, roles⟩
    refine ⟨fun start p => ?_, fun p => ?_⟩
    · rw [appendOnce, PortTable.get_map]
      exact (law start p).onAppend
    · rw [appendOnce, PortTable.get_map, (SameLine.onAppend _).role, roles]
  exact ⟨kept.1, kept.2⟩

theorem refl (s : State) : KeepsPorts s s := of_appends (.refl s)

theorem ite {c : Prop} [Decidable c] (h : c → KeepsPorts s t) (k : ¬c → KeepsPorts s u) :
    KeepsPorts s (if c then t else u) := by
  split
  · exact h ‹_›
  · exact k ‹_›

theorem whenRunning {act : State → State} (h : KeepsPorts s (act s)) : KeepsPorts s (s.whenRunning act) :=
  ite (fun _ => refl s) fun _ => h

/-- One port's record changes, lawful as it was and with its role. -/
theorem modPort {p : Port} {g : PortRecord → PortRecord}
    (law : (s.port p).Lawful s.ring.write → (g (s.port p)).Lawful s.ring.write)
    (role : (g (s.port p)).role = (s.port p).role := by rfl) : KeepsPorts s (s.modPort p g) := by
  refine ⟨fun all r => ?_, fun r => ?_⟩
  · rw [State.port_modPort]
    split
    · exact law (all p)
    · exact all r
  · rw [State.port_modPort]
    split
    case _ same => rw [same, role]
    case _ => rfl

/-! ## Requests (R156, R159) -/

theorem respond {p : Port} (on : (s.port p).role ≠ .disabled) (cmd : Byte) (reply : Reply) :
    KeepsPorts s (s.respond p cmd reply) := modPort fun h => h.responding on _

/-- A request that its port has passed on is taken from it, and no response is being sent there (R159). -/
theorem takeRequest {p : Port} {i : Instr} (free : (s.port p).engaged i = false) :
    KeepsPorts s (s.takeRequest p) := by
  refine ite (fun busy => modPort fun h => ?_) fun _ => refl s
  have waits : (s.port p).request = some i := by simpa [PortRecord.engaged, busy] using free
  exact h.requestTaken (by rw [waits]; rfl)

/-- A request keeps what its owner's act keeps. -/
theorem serve (i : Instr) {body : State → State × Reply} (k : ∀ u, KeepsPorts u (body u).1) (s : State) :
    KeepsPorts s (s.serve i body) := by
  unfold State.serve
  split
  · exact refl s
  case _ p c _ _ =>
    refine whenRunning (ite (fun _ => refl s) fun on => ite (fun _ => modPort id) fun free => ?_)
    have taken : KeepsPorts s (s.takeRequest p) := takeRequest (Bool.eq_false_iff.2 free)
    have on' : ((s.takeRequest p).port p).role ≠ .disabled := by rwa [taken.roles]
    dsimp only
    refine ite (fun _ => taken.trans ((k _).trans (respond ?_ _ _))) fun _ => taken.trans (respond on' _ _)
    rwa [(k _).roles]

theorem serve_appends (i : Instr) {body : State → State × Reply} (k : ∀ u, Appends u (body u).1) (s : State) :
    KeepsPorts s (s.serve i body) := serve i (fun u => of_appends (k u)) s

/-! ## The port's own requests (R164, R167 to R169) -/

theorem readEvents (p : Port) (count : Byte) (s : State) : KeepsPorts s (State.readEvents p count s).1 := by
  unfold State.readEvents
  split
  · exact refl s
  · dsimp only
    exact modPort fun h => h.consume (Nat.min_le_right _ _)

theorem readPortStatus (p : Port) (option : Byte) (s : State) : KeepsPorts s (State.readPortStatus p option s).1 := by
  unfold State.readPortStatus
  split
  · exact refl s
  · split
    · dsimp only
      exact modPort fun h => h.cleared
    · exact refl s

theorem setAttention (p : Port) (trigger linger : Byte) (s : State) :
    KeepsPorts s (State.setAttention p trigger linger s).1 := by
  unfold State.setAttention
  split
  · dsimp only
    refine modPort fun h => h.withLinger fun running => ?_
    by_contra none
    simp [none] at running
  · exact refl s

end KeepsPorts

/-! ## Starts, the reset and time (R5, R159, R166, R172) -/

/-- A start brings the laws about: the ring holds POWER-UP alone, unread at every enabled port. -/
theorem State.startUp_portLaw (s : State) (pin : Bool) (pins : StartPins) : (s.startUp pin pins).PortLaw := by
  have cleared : (s.cleared pins).PortLaw := fun p => by cases p <;> exact resetPort_lawful _
  exact (KeepsPorts.of_appends (.post _ _)).law cleared

theorem State.PortLaw.map {s t : State} (h : s.PortLaw) {g : PortRecord → PortRecord}
    (law : ∀ {q : PortRecord}, q.Lawful s.ring.write → (g q).Lawful s.ring.write) (ring : t.ring = s.ring := by rfl)
    (ports : t.ports = s.ports.map g := by rfl) : t.PortLaw := fun p => by
  rw [State.port, ring, ports, PortTable.get_map]
  exact law (h p)

/-! ## Every command, every step -/

/-- Every command but the starts and the reset keeps the ports lawful, and their roles. -/
theorem KeepsPorts.exec {c : Instr} (hc : ∀ pins, c ≠ .powerOn pins) (hr : ∀ pins, c ≠ .resetPin pins)
    (ha : c ≠ .resetAsserted) {s t : State} (h : exec c s = .next t) : KeepsPorts s t := by
  have served : ∀ (i : Instr) {body : State → State × Reply}, (∀ u, Appends u (body u).1) →
      KeepsPorts s (s.serve i body) := fun i _ k => .serve_appends i k s
  have acted : ∀ {act : State → State}, Appends s (act s) → KeepsPorts s (s.whenRunning act) :=
    fun k => .whenRunning (.of_appends k)
  cases c with
  | powerOn pins => exact absurd rfl (hc pins)
  | resetPin pins => exact absurd rfl (hr pins)
  | resetAsserted => exact absurd rfl ha
  | sampleArrival d level => cases h; exact acted (.takeSample s d _)
  | coolDownExpiry d => cases h; exact acted (.ite (.join s _ d) (.same rfl))
  | settleExpiry d => cases h; exact acted (.ite (.once rfl) (.same rfl))
  | deadTimeExpiry d => cases h; exact acted (.ite (.same rfl) (.same rfl))
  | lineChange f level => cases h; exact acted (.lineChanges s f level)
  | debounceExpiry f => cases h; exact acted (.ite (.acceptHealthy s f) (.same rfl))
  | pauseExpiry f => cases h; exact acted (.pauseExpires s f)
  | storeWriteEnd matched => cases h; exact acted (.writeEnds s matched)
  | lingerExpiry p =>
    cases h
    exact .whenRunning (.ite (fun _ => .modPort fun law => law.withLinger (by simp)) fun _ => .refl s)
  | interByteTimeout p =>
    cases h
    refine .whenRunning (.ite (fun stalled => .modPort fun law => law.receptionFault fun busy => ?_) fun _ => .refl s)
    cases stalled.symm.trans (law.quiet busy)
  | responseEnd p =>
    cases h
    refine .whenRunning (.ite (fun sends => .modPort fun law => law.responseEnds sends ?_) fun _ => .refl s)
    split
    · exact saturate_le _
    · exact law.badFrames_le
  | rxByte p b stopBit =>
    cases h
    exact .whenRunning (.modPort (fun law => law.receive p b stopBit) (PortRecord.receive_role _ p b stopBit))
  | readDistrict p n | readDistrictStats p n | readFeed p n | readQueue p n | readSettings p k n i
  | readChainEntry p n i | readSnapshot p n => cases h; exact served _ fun _ => .same rfl
  | readEvents p n => cases h; exact .serve _ (.readEvents p n) s
  | readPortStatus p o => cases h; exact .serve _ (.readPortStatus p o) s
  | setAttention p tr lg => cases h; exact .serve _ (.setAttention p tr lg) s
  | enable p m => cases h; exact served _ (.maskCommand p _ m .enableRule)
  | clear p m => cases h; exact served _ (.maskCommand p _ m .clearRule)
  | disable p m => cases h; exact served _ (.maskCommand p _ m .disableRule)
  | hold p m => cases h; exact served _ (.maskCommand p _ m (.holdRule p))
  | release p m => cases h; exact served _ (.releaseCommand p _ m p)
  | releaseForeign p m n => cases h; exact served _ (.releaseForeign p m n)
  | markSeen p m =>
    cases h
    rw [markSeenRule_eq]
    exact served _ (.markCommand p _ m _ _)
  | resetStats p m =>
    cases h
    rw [resetStatsRule_eq]
    exact served _ (.markCommand p _ m _ _)
  | snapshot p | snapshotKeep p => cases h; exact served _ fun _ => .once rfl
  | setDistrict p n k v => cases h; exact served _ (.writeDistrict n k v)
  | setFeed p n k v => cases h; exact served _ (.writeFeed n k v)
  | setChainEntry p i en => cases h; exact served _ (.writeChainEntry i en)
  | apply p ds gs => cases h; exact served _ (.applySettings p ds gs)
  | applyChains p => cases h; exact served _ (.applyChains p)
  | save p => cases h; exact served _ (.saveStarts p)
  | cycleFeed p n => cases h; exact served _ (.feedCommand (fun f u => .feedRule (.cycle u p f)) n)
  | haltWalk p n => cases h; exact served _ (.feedCommand (fun _ _ => .feedRule (.once rfl)) n)
  | resumeWalk p n => cases h; exact served _ (.feedCommand (fun f u => .feedRule (.resumeWalk u p f)) n)
  | endWalk p n => cases h; exact served _ (.feedCommand (fun f u => .feedRule (.endWalk u f _ _)) n)
  | clearWalkErrors p n => cases h; exact served _ (.feedCommand (fun _ _ => (.same rfl)) n)

theorem State.PortLaw.exec {s t : State} (law : s.PortLaw) (c : Instr) (h : exec c s = .next t) : t.PortLaw := by
  cases c with
  | powerOn pins | resetPin pins => cases h; exact s.startUp_portLaw _ pins
  | resetAsserted =>
    cases h
    exact law.map fun q => q.hunting q.badFrames_le
  | _ => exact (KeepsPorts.exec (by simp) (by simp) (by simp) h).law law

/-- Settles O58: a step is a command from the queue, one that is due, or a millisecond. -/
theorem everyStepKeepsThePortLaws : Obligations.EveryStepKeepsThePortLaws := by
  intro s t lawful h
  have law := s.portLaw_iff.2 lawful
  refine t.portLaw_iff.1 ?_
  unfold step at h
  split at h
  case _ rest _ =>
    have popped : ({ s with pending := rest } : State).PortLaw := law
    exact popped.exec _ h
  · split at h
    · exact law.exec _ h
    · cases h
      unfold State.idle State.whenRunning
      split
      · exact law
      · exact law.map PortRecord.Lawful.tick

end Sys2Proof.Machine
end

section
/-! # The event ring: what READ-EVENTS takes, and what appended events leave (R165 to R168) -/

namespace Sys2Proof.Machine

/-! ## The linger codes (R161, R168) -/

/-- The linger that a code starts, as R161 lists them. -/
theorem lingerOf_eq_getElem (c : Fin 5) :
    lingerOf c = [none, some 10, some 50, some 200, some 1000][c.val]'(c.isLt) := by
  fin_cases c <;> rfl

/-! ## Reading (R165, R167) -/

/-- The bytes of an entry, each two-byte figure low byte first (R165). -/
theorem Entry.bytes_eq (e : Entry) :
    e.bytes = [e.kind, e.subject, e.origin, e.detail, byteOf e.value.toNat, byteOf (e.value.toNat / 256),
      byteOf e.stamp.toNat, byteOf (e.stamp.toNat / 256)] := by
  rw [Entry.bytes, halfBytes_eq, halfBytes_eq]
  rfl

/-- The position one place on, and `j` places on from there. -/
theorem RingPos.add_ofNat_succ (c : RingPos) (j : Nat) : c + Fin.ofNat 128 (j + 1) = c + 1 + Fin.ofNat 128 j := by
  ext
  simp only [Fin.val_add, Fin.val_ofNat, Fin.val_one]
  omega

/-- Reading goes on from the cursor, position by position. -/
theorem Ring.readFrom_eq_map (g : Ring) {entry : Nat → Entry} (k : Nat) (c : RingPos)
    (stands : ∀ j, entry j = g.entries[(c + Fin.ofNat 128 j).val]'((c + Fin.ofNat 128 j).isLt)) :
    g.readFrom k c = (List.range k).map entry := by
  induction k generalizing entry c with
  | zero => rfl
  | succ k ih =>
    have first : entry 0 = g.entries[c.val]'c.isLt := by simpa using stands 0
    have rest : g.readFrom k (c + 1) = (List.range k).map (fun j => entry (j + 1)) :=
      ih (c + 1) fun j => by simp only [stands, RingPos.add_ofNat_succ]
    rw [Ring.readFrom, rest, List.range_succ_eq_map, List.map_cons, List.map_map, first]
    rfl

/-- A port whose read took `k` entries, in the rules' words (R167, R168). -/
theorem PortRecord.consume_eq (q : PortRecord) (k : Nat) :
    q.consume k =
      { q with
        cursor := Fin.ofNat 128 (q.cursor.val + k)
        unread := q.unread - k
        lingerExpired := false
        lingerTimer := if q.unread - k = 0 then none else
          [none, some 10, some 50, some 200, some 1000][q.linger.val]'(q.linger.isLt) } := by
  have cursor : q.cursor + Fin.ofNat 128 k = Fin.ofNat 128 (q.cursor.val + k) := by
    ext
    simp only [Fin.val_add, Fin.val_ofNat, Nat.add_mod_mod]
  have timer : (if 0 < q.unread - k then lingerOf q.linger else none) =
      if q.unread - k = 0 then none else lingerOf q.linger := by
    simp only [Nat.pos_iff_ne_zero, ite_not]
  rw [PortRecord.consume, cursor, timer, lingerOf_eq_getElem]

/-- READ-EVENTS with a count that R167 allows. -/
theorem State.readEvents_of_count {count : Byte} (least : 1 ≤ count.toNat) (most : count.toNat ≤ 8) (p : Port)
    (s : State) :
    State.readEvents p count s =
      (s.modPort p (fun q => q.consume (min count.toNat (s.port p).unread)),
        { status := if min count.toNat (s.port p).unread = 0 then .unchanged else .ok
          data := (s.ring.readFrom (min count.toNat (s.port p).unread) (s.port p).cursor).flatMap Entry.bytes }) := by
  have allowed : ¬(count = 0 ∨ 8 < count.toNat) := by
    rw [Byte.eq_zero_iff]
    omega
  rw [State.readEvents, if_neg allowed]

/-- Settles O41: the read takes the entries from the cursor on, as many as asked and unread. -/
theorem readEventsTakesTheOldestUnread : Obligations.ReadEventsTakesTheOldestUnread := by
  rintro p count k s may least most rfl oldest stands
  show Host.Outcome.next (s.serve (.readEvents p count) _) = _
  rw [may.serve rfl, State.readEvents_of_count least most, Ring.readFrom_eq_map _ _ _ stands, List.flatMap_map]
  simp only [PortRecord.consume_eq, Entry.bytes_eq]
  rfl

/-! ## One event (R166, R168) -/

/-- What stands at a position of the ring after an append (R166). -/
theorem Ring.append_entries (g : Ring) (e : Entry) (i : RingPos) :
    (g.append e).entries[i.val]'i.isLt = if i = g.write then e else g.entries[i.val]'i.isLt := by
  split
  case isTrue here =>
    subst here
    exact g.append_at_write e
  case isFalse elsewhere => exact g.append_elsewhere e i elsewhere

/-- An append at a port with room for one more unread entry. -/
theorem PortRecord.onAppend_of_room {q : PortRecord} (on : q.role ≠ .disabled) (room : q.unread < 128) :
    q.onAppend =
      { q with
        unread := q.unread + 1
        lingerTimer := if q.unread = 0 then
            [none, some 10, some 50, some 200, some 1000][q.linger.val]'(q.linger.isLt)
          else q.lingerTimer } := by
  rw [PortRecord.onAppend, if_neg on, if_pos (by exact room), lingerOf_eq_getElem]

/-- An append at a port at which the whole ring is unread: the oldest entry is lost. -/
theorem PortRecord.onAppend_of_full {q : PortRecord} (on : q.role ≠ .disabled) (full : 128 ≤ q.unread) :
    q.onAppend =
      { q with cursor := q.cursor + 1, overrun := true, lost := if q.lost < 255 then q.lost + 1 else 255 } := by
  have noRoom : ¬q.unread < Config.ringSize := Nat.not_lt.2 full
  rw [PortRecord.onAppend, if_neg on, if_neg noRoom, saturate_eq]

/-! ## Any number of events (R166) -/

theorem State.foldl_post_concat (s : State) (evs : List Event) (ev : Event) :
    (evs ++ [ev]).foldl State.post s = (evs.foldl State.post s).post ev := by
  rw [List.foldl_append, List.foldl_cons, List.foldl_nil]

theorem State.now_foldl_post (s : State) (evs : List Event) : (evs.foldl State.post s).now = s.now := by
  induction evs generalizing s with
  | nil => rfl
  | cons ev evs ih => exact ih _

/-- The write position has moved on by the number of events. -/
theorem State.write_foldl_post (s : State) (evs : List Event) :
    (evs.foldl State.post s).ring.write.val = (s.ring.write.val + evs.length) % 128 := by
  induction evs generalizing s with
  | nil => exact (Nat.mod_eq_of_lt s.ring.write.isLt).symm
  | cons ev evs ih =>
    have one : (s.post ev).ring.write.val = (s.ring.write.val + 1) % 128 := by
      rw [State.ring_post, Ring.append_write, Fin.val_add, Fin.val_one]
    rw [List.foldl_cons, ih, one, List.length_cons]
    omega

/-- Of the events appended the last 128 stand in the ring, the oldest first: the next event takes the place of the one
128 before it. -/
theorem State.entries_foldl_post (s : State) (evs : List Event) :
    ∀ k ev, evs[k]? = some ev → evs.length ≤ k + 128 →
      (evs.foldl State.post s).ring.entries[(s.ring.write.val + k) % 128]'(Nat.mod_lt _ (by decide)) =
        ev.entry s.now := by
  induction evs using List.reverseRecOn with
  | nil => simp
  | append_singleton evs last ih =>
    intro k ev isK recent
    rw [List.length_append, List.length_singleton] at recent
    have isAt := Ring.append_entries (evs.foldl State.post s).ring (last.entry s.now)
      ⟨(s.ring.write.val + k) % 128, Nat.mod_lt _ (by decide)⟩
    simp only [Fin.ext_iff, s.write_foldl_post] at isAt
    simp only [s.foldl_post_concat, State.ring_post, s.now_foldl_post, isAt]
    obtain before | rfl | beyond := Nat.lt_trichotomy k evs.length
    · rw [List.getElem?_append_left before] at isK
      rw [if_neg (by omega)]
      exact ih k ev isK (by omega)
    · rw [List.getElem?_concat_length, Option.some_inj] at isK
      rw [if_pos rfl, isK]
    · rw [List.getElem?_eq_none (by simpa using beyond)] at isK
      cases isK

/-- The counts of a port `r` are those of `q` after `n` appended events: what 128 unread entries do not hold is lost,
and the cursor has passed it (R166). -/
structure PortRecord.CountsMoved (q r : PortRecord) (n : Nat) : Prop where
  role : r.role = q.role
  unread : r.unread = min 128 (q.unread + n)
  lost : r.lost = min 255 (q.lost + (q.unread + n - 128))
  cursor : r.cursor.val = (q.cursor.val + (q.unread + n - 128)) % 128
  overrun : r.overrun = true ↔ q.overrun = true ∨ 128 < q.unread + n

namespace PortRecord.CountsMoved
variable {q r : PortRecord} {n : Nat}

theorem zero (unread : q.unread ≤ 128) (lost : q.lost ≤ 255) : CountsMoved q q 0 where
  role := rfl
  unread := by omega
  lost := by omega
  cursor := by
    have := q.cursor.isLt
    omega
  overrun := by simp [Nat.not_lt.2 unread]

/-- One more event is unread while there is room, and costs the oldest entry where there is none. -/
theorem onAppend (h : CountsMoved q r n) (on : q.role ≠ .disabled) : CountsMoved q r.onAppend (n + 1) := by
  obtain ⟨role, unread, lost, cursor, overrun⟩ := h
  have on' : r.role ≠ .disabled := by rwa [role]
  obtain room | full := Nat.lt_or_ge r.unread 128
  · have fits : q.unread + n < 128 := by omega
    rw [onAppend_of_room on' room]
    exact
      { role := role
        unread := show r.unread + 1 = _ by omega
        lost := show r.lost = _ by omega
        cursor := show r.cursor.val = _ by omega
        overrun := overrun.trans (or_congr_right (by omega)) }
  · have exceeds : 128 ≤ q.unread + n := by omega
    have passed : (r.cursor + 1).val = (r.cursor.val + 1) % 128 := by rw [Fin.val_add, Fin.val_one]
    rw [onAppend_of_full on' full]
    exact
      { role := role
        unread := show r.unread = _ by omega
        lost := show (if r.lost < 255 then r.lost + 1 else 255) = _ by split <;> omega
        cursor := show (r.cursor + 1).val = _ by omega
        overrun := iff_of_true rfl (.inr (by omega)) }

/-- At a port that is not DISABLED the counts move on by the number of events. -/
theorem foldl_post {s : State} {p : Port} (on : (s.port p).role ≠ .disabled) (unread : (s.port p).unread ≤ 128)
    (lost : (s.port p).lost ≤ 255) (evs : List Event) :
    CountsMoved (s.port p) ((evs.foldl State.post s).port p) evs.length := by
  induction evs using List.reverseRecOn with
  | nil => exact zero unread lost
  | append_singleton evs last ih =>
    rw [s.foldl_post_concat, State.port_post, List.length_append, List.length_singleton]
    exact ih.onAppend on

end PortRecord.CountsMoved

/-- Settles O60: an append writes one entry and changes each port's counts; many are appended one after the other. -/
theorem anAppendedEventReachesEveryPort : Obligations.AnAppendedEventReachesEveryPort := by
  refine ⟨⟨rfl, rfl, fun d => byteOf_toNat (by omega), fun f => byteOf_toNat (by omega), rfl⟩,
    fun s kind d detail value => rfl, fun s ev => ⟨_, rfl, rfl, ?_, ?_, fun p => ?_, ?_, rfl⟩,
    fun s evs => ⟨_, rfl, s.write_foldl_post evs, s.entries_foldl_post evs, fun p on unread lost => ?_⟩⟩
  · exact Ring.append_at_write _ _
  · exact fun i elsewhere => Ring.append_elsewhere _ _ i elsewhere
  · rw [State.port_post]
    exact ⟨PortRecord.onAppend_of_disabled, PortRecord.onAppend_of_room, PortRecord.onAppend_of_full⟩
  · exact ⟨rfl, rfl, rfl, rfl, rfl, rfl, rfl, rfl, rfl, rfl⟩
  · obtain ⟨-, unread', lost', cursor', overrun'⟩ := PortRecord.CountsMoved.foldl_post on unread lost evs
    exact ⟨unread', lost', cursor', overrun'⟩

end Sys2Proof.Machine
end

section
/-! # In reset only a start acts; the store: SAVE, the end of a write, and what no other command changes
(R159, R170 to R172) -/

namespace Sys2Proof.Machine

/-! ## In reset (R172, log 8) -/

/-- Settles O4: an event waits for a running part, and in reset no request is served. -/
theorem inResetOnlyAStartActs : Obligations.InResetOnlyAStartActs := by
  intro i s inReset notPowerOn notResetPin notAsserted
  have event : ∀ act, Host.Outcome.next (s.whenRunning act) = (.next s : Host.Outcome State Fault Refusal) :=
    fun act => congrArg _ (State.whenRunning_of_inReset inReset act)
  cases encoded : encodeRequest i with
  | some request =>
    obtain ⟨body, served⟩ := exec_of_encodeRequest encoded
    rw [served, State.serve_of_inReset inReset]
  | none =>
    cases i with
    | powerOn pins => exact absurd rfl (notPowerOn pins)
    | resetPin pins => exact absurd rfl (notResetPin pins)
    | resetAsserted => exact absurd rfl notAsserted
    | sampleArrival _ _ | coolDownExpiry _ | settleExpiry _ | deadTimeExpiry _ | lineChange _ _ | debounceExpiry _
    | pauseExpiry _ | lingerExpiry _ | interByteTimeout _ | rxByte _ _ _ | responseEnd _ | storeWriteEnd _ =>
      exact event _
    | _ => cases encoded

/-! ## SAVE (R171) -/

/-- The state in which SAVE has captured the active image, erased the check word and begun the write (R171). -/
def State.saving (s : State) (p : Port) : State :=
  { s with nv :=
      { image := s.nv.image, check := none
        writing := some { origin := p, capture := s.activeImage, check := s.activeImage.check, remaining := 60 }
        writes := s.nv.writes + 1 } }

theorem State.saveStarts_of_idle {s : State} (idle : s.nv.writing = none) (p : Port) :
    State.saveStarts p s = (s.saving p, Reply.ok []) := by
  rw [State.saveStarts, idle]
  rfl

theorem State.saveStarts_of_writing {s : State} (writing : s.nv.writing.isSome = true) (p : Port) :
    State.saveStarts p s = (s, { status := .refusedBusy, data := [] }) := by
  obtain ⟨w, writes⟩ := Option.isSome_iff_exists.1 writing
  rw [State.saveStarts, writes]

/-- SAVE at a port that may send it is answered with what the store's owner answers. -/
theorem exec_save {s : State} {p : Port} (may : s.MayRequest p .save) :
    exec (.save p) s = .next (((State.saveStarts p s).1).respond p 0x35 (State.saveStarts p s).2) :=
  congrArg _ (may.serve rfl _)

theorem exec_save_of_idle {s : State} {p : Port} (may : s.MayRequest p .save) (idle : s.nv.writing = none) :
    exec (.save p) s = .next ((s.saving p).respond p 0x35 (Reply.ok [])) := by
  rw [exec_save may, State.saveStarts_of_idle idle]

/-- Settles O14: the owner's two answers to SAVE, by whether a write is in progress. -/
theorem saveStartsAWriteOrIsRefused : Obligations.SaveStartsAWriteOrIsRefused := by
  intro p s may
  refine ⟨fun idle => exec_save_of_idle may idle, fun writing => ?_⟩
  rw [exec_save may, State.saveStarts_of_writing writing]

/-! ## The end of a write (R171) -/

/-- The store after the write `w` has ended with this read-back (R171 step 5). -/
def Nv.written (n : Nv) (w : StoreWrite) (matched : Bool) : Nv :=
  { image := if matched then w.capture else Config.tornImage n.writes
    check := if matched then some w.check else none
    writing := none
    writes := n.writes }

theorem State.writeEnds_of_idle {s : State} (idle : s.nv.writing = none) (matched : Bool) :
    s.writeEnds matched = s := by
  rw [State.writeEnds, idle]

theorem State.writeEnds_of_writing {s : State} {w : StoreWrite} (writing : s.nv.writing = some w) (matched : Bool) :
    s.writeEnds matched = { s with nv := s.nv.written w matched }.post
      { kind := if matched then .storeSaved else .storeFailed, subject := .nothing, origin := .port w.origin,
        detail := 0, value := w.check } := by
  rw [State.writeEnds, writing]
  rfl

theorem exec_storeWriteEnd {s : State} (running : s.inReset = false) (matched : Bool) :
    exec (.storeWriteEnd matched) s = .next (s.writeEnds matched) :=
  congrArg _ (State.whenRunning_of_running running _)

/-- Settles O15: the ends of a write with either read-back; the image a failed one leaves is the free value of log 7. -/
theorem aStoreWriteEndsValidOrErased : Obligations.AStoreWriteEndsValidOrErased := by
  intro s running
  refine ⟨fun w writing => ⟨?_, Config.tornImage s.nv.writes, ?_⟩, fun idle matched => ?_⟩
  · rw [exec_storeWriteEnd running, State.writeEnds_of_writing writing]
    rfl
  · rw [exec_storeWriteEnd running, State.writeEnds_of_writing writing]
    rfl
  · rw [exec_storeWriteEnd running, State.writeEnds_of_idle idle]

/-! ## The image a start loads (R171, R172) -/

theorem Nv.cutOff_check_of_erased {n : Nv} (erased : n.check = none) : n.cutOff.check = none := by
  unfold Nv.cutOff
  split
  · exact erased
  · rfl

theorem Nv.loaded_of_erased {n : Nv} (erased : n.check = none) : n.loaded = defaultImage :=
  Nv.loaded_of_invalid (by simp [erased])

/-- A start that finds the check word erased works from the defaults, whether a write is cut off or not. -/
theorem State.startUp_of_erased {s : State} (erased : s.nv.check = none) (pin : Bool) (pins : StartPins) :
    (s.startUp pin pins).activeImage = defaultImage ∧ (s.startUp pin pins).pendingImage = defaultImage := by
  have loaded := Nv.loaded_of_erased (Nv.cutOff_check_of_erased erased)
  exact ⟨loaded, loaded⟩

/-- A store that a write has left with the image `i` and its check word. -/
structure Nv.Saved (n : Nv) (i : Image) : Prop where
  image : n.image = i
  check : n.check = some i.check
  idle : n.writing = none

theorem Nv.saved_written {n : Nv} {w : StoreWrite} (captured : w.check = w.capture.check) :
    (n.written w true).Saved w.capture := ⟨rfl, congrArg some captured, rfl⟩

theorem Nv.Saved.cutOff {n : Nv} {i : Image} (h : n.Saved i) : n.cutOff.Saved i :=
  (Nv.cutOff_of_idle h.idle).symm ▸ h

theorem Nv.Saved.loaded {n : Nv} {i : Image} (h : n.Saved i) : n.loaded = i :=
  (Nv.loaded_of_valid (h.image ▸ h.check)).trans h.image

/-- A start that finds a saved image works from it. -/
theorem State.startUp_of_saved {s : State} {i : Image} (saved : s.nv.Saved i) (pin : Bool) (pins : StartPins) :
    (s.startUp pin pins).activeImage = i ∧ (s.startUp pin pins).pendingImage = i :=
  ⟨saved.cutOff.loaded, saved.cutOff.loaded⟩

/-! ## SAVE, the end of the write or a reset, and a start (R171, R172) -/

section
variable {s : State} {p : Port} (may : s.MayRequest p .save) (idle : s.nv.writing = none)
include may idle

/-- SAVE leaves a running part that is writing its active image, the check word erased. -/
theorem runAll_save (rest : List Instr) :
    ∃ t, runAll (.save p :: rest) s = runAll rest t ∧ t.inReset = false ∧ t.nv = (s.saving p).nv :=
  ⟨_, runAll_cons (exec_save_of_idle may idle) rest, may.1, rfl⟩

/-- After SAVE and the end of the write the store holds the image saved, or has its check word erased. -/
theorem runAll_save_writeEnd (matched : Bool) (rest : List Instr) :
    ∃ t, runAll (.save p :: .storeWriteEnd matched :: rest) s = runAll rest t ∧
      (if matched then t.nv.Saved s.activeImage else t.nv.check = none) := by
  obtain ⟨u, ran, running, store⟩ := runAll_save may idle (.storeWriteEnd matched :: rest)
  have ended := State.writeEnds_of_writing (congrArg Nv.writing store) matched
  refine ⟨u.writeEnds matched, ran.trans (runAll_cons (exec_storeWriteEnd running matched) rest), ?_⟩
  rw [ended]
  cases matched with
  | true => exact Nv.saved_written rfl
  | false => rfl

end

/-- The start after SAVE works from the image saved where the write has ended well, and otherwise from the defaults. -/
theorem runAll_save_start (p : Port) (pins : StartPins) (s : State) (may : s.MayRequest p .save)
    (idle : s.nv.writing = none) :
    (∃ t, runAll [.save p, .storeWriteEnd true, .resetAsserted, .resetPin pins] s = some t ∧
      t.activeImage = s.activeImage ∧ t.pendingImage = s.activeImage) ∧
    (∃ t, runAll [.save p, .storeWriteEnd true, .powerOn pins] s = some t ∧
      t.activeImage = s.activeImage ∧ t.pendingImage = s.activeImage) ∧
    (∃ t, runAll [.save p, .storeWriteEnd false, .powerOn pins] s = some t ∧
      t.activeImage = defaultImage ∧ t.pendingImage = defaultImage) ∧
    (∃ t, runAll [.save p, .resetAsserted, .resetPin pins] s = some t ∧
      t.activeImage = defaultImage ∧ t.pendingImage = defaultImage) := by
  refine ⟨?_, ?_, ?_, ?_⟩
  · obtain ⟨u, ran, saved⟩ := runAll_save_writeEnd may idle true [.resetAsserted, .resetPin pins]
    exact ⟨_, ran, State.startUp_of_saved (Nv.Saved.cutOff saved) true pins⟩
  · obtain ⟨u, ran, saved⟩ := runAll_save_writeEnd may idle true [.powerOn pins]
    exact ⟨_, ran, State.startUp_of_saved saved false pins⟩
  · obtain ⟨u, ran, erased⟩ := runAll_save_writeEnd may idle false [.powerOn pins]
    exact ⟨_, ran, State.startUp_of_erased erased false pins⟩
  · obtain ⟨u, ran, -, store⟩ := runAll_save may idle [.resetAsserted, .resetPin pins]
    have erased : u.nv.check = none := congrArg Nv.check store
    exact ⟨_, ran, State.startUp_of_erased (Nv.cutOff_check_of_erased erased) true pins⟩

end Sys2Proof.Machine
end

section
/-! # The store is changed by SAVE, the end of a write and a cut-off alone (R170 to R172) -/

namespace Sys2Proof.Machine

/-! ## Walks, copies, samples and faults (chapters 02 to 07) -/

/-- The store is part of what the settings laws read of a state, so the lemmas of that layer serve here. -/
theorem State.nv_of_settings {s t : State} (h : t.settings = s.settings) : t.nv = s.nv :=
  congrArg (fun settings => settings.2.2) h

/-- What each of some acts leaves as it was is left by all of them in turn. -/
theorem foldl_keeps {σ α β : Type} {act : σ → α → σ} {read : σ → β} (h : ∀ s a, read (act s a) = read s) (as : List α)
    (s : σ) : read (as.foldl act s) = read s := by
  induction as generalizing s with
  | nil => rfl
  | cons a as ih => rw [List.foldl_cons, ih, h]

@[simp] theorem State.deferredCopy_nv (s : State) (d : DistrictId) : (s.deferredCopy d).nv = s.nv :=
  (CopyBeside.deferredCopy s d).nv

theorem State.deferredCopies_nv (s : State) (ds : List DistrictId) : (ds.foldl State.deferredCopy s).nv = s.nv :=
  foldl_keeps State.deferredCopy_nv ds s

@[simp] theorem State.soakEndNotice_nv (s : State) (f : FeedId) (d : DistrictId) (c : SoakContext)
    (o : NoticeOutcome) : (s.soakEndNotice f d c o).nv = s.nv := (Notices.soakEndNotice s f d c o).nv

@[simp] theorem State.startWalk_nv (s : State) (f : FeedId) (o : Origin) (reason : Nat) :
    (s.startWalk f o reason).nv = s.nv := (Walks.startWalk s f o reason).nv

@[simp] theorem State.tripOrLatch_nv (s : State) (d : DistrictId) (cause : Cause) :
    (s.tripOrLatch d cause).nv = s.nv := State.nv_of_settings (s.tripOrLatch_settings d cause)

@[simp] theorem State.endGrace_nv (s : State) (v : DistrictId) : (s.endGrace v).nv = s.nv :=
  State.nv_of_settings (s.endGrace_settings v)

@[simp] theorem State.soakFail_nv (s : State) (d : DistrictId) (c : SoakContext) (why : SoakFailure) :
    (s.soakFail d c why).nv = s.nv := by simp [State.soakFail]

@[simp] theorem State.soakPass_nv (s : State) (d : DistrictId) (c : SoakContext) : (s.soakPass d c).nv = s.nv := by
  simp [State.soakPass]

@[simp] theorem State.swapSuccess_nv (s : State) (v : DistrictId) : (s.swapSuccess v).nv = s.nv := by
  simp [State.swapSuccess]

@[simp] theorem State.swapFail_nv (s : State) (v : DistrictId) (test figure : Nat) :
    (s.swapFail v test figure).nv = s.nv := by simp [State.swapFail]

/-- The soak arithmetic ends the soak or goes on with it (R60). -/
theorem State.evaluateSoak_nv (s : State) (d : DistrictId) (x : Nat) : (s.evaluateSoak d x).nv = s.nv := by
  unfold State.evaluateSoak
  dsimp only
  repeat' split
  all_goals simp

/-- The swap check ends the swap or goes on with it (R84). -/
theorem State.evaluateCheck_nv (s : State) (d : DistrictId) (x : Nat) : (s.evaluateCheck d x).nv = s.nv := by
  unfold State.evaluateCheck
  dsimp only
  repeat' split
  all_goals simp

theorem State.evaluate_nv (s : State) (d : DistrictId) (x : Nat) : (s.evaluate d x).nv = s.nv := by
  unfold State.evaluate
  split
  · exact s.evaluateSoak_nv d x
  · exact s.evaluateCheck_nv d x
  · split
    · exact State.nv_of_settings (s.evaluateReversing_settings d x)
    · exact State.nv_of_settings (s.evaluatePartner_settings d x)
  all_goals rfl

theorem State.takeSample_nv (s : State) (d : DistrictId) (x : Nat) : (s.takeSample d x).nv = s.nv := by
  unfold State.takeSample
  split
  · rfl
  · exact (State.evaluate_nv _ d x).trans (State.nv_of_settings (State.judgeOccupancy_settings _ d))

/-- The entry to OFF (R11). -/
theorem State.toOff_nv (s : State) (d : DistrictId) : (s.toOff d).nv = s.nv := by
  have left : (s.leftForOff d).nv = s.nv := State.nv_of_settings (by simp [State.leftForOff])
  rw [State.toOff_eq]
  split
  · rw [State.soakEndNotice_nv, left]
  · exact left

theorem State.darkenAll_nv (s : State) (f : FeedId) (ds : List DistrictId) :
    (ds.foldl (State.darken f) s).nv = s.nv :=
  State.nv_of_settings (State.foldl_settings (State.darken_settings f) ds s)

/-- The acceptance of a fault (R99). -/
theorem State.acceptFault_nv (s : State) (f : FeedId) : (s.acceptFault f).nv = s.nv := by
  unfold State.acceptFault
  dsimp only
  rw [(Walks.copyWaitingChains f _).nv, (Notices.copyWaitingFeed _ f).nv, State.deferredCopies_nv,
    State.post_nv, State.modFeed_nv, State.nv_of_settings (State.abortAnyWalk_settings _ f), State.modFeed_nv,
    State.darkenAll_nv, State.nv_of_settings (s.capture_settings f)]

/-- CYCLE-FEED accepted (R116). -/
theorem State.cycle_nv (s : State) (p : Port) (f : FeedId) : (s.cycle p f).nv = s.nv := by
  rw [State.cycle_eq, State.startWalk_nv, State.deferredCopies_nv]
  exact s.darkenAll_nv f _

theorem State.lineChanges_nv (s : State) (f : FeedId) (level : Level) : (s.lineChanges f level).nv = s.nv := by
  unfold State.lineChanges
  split
  · rfl
  · split
    · dsimp only
      split
      · exact State.acceptFault_nv _ f
      · rfl
    · rfl

theorem State.acceptHealthy_nv (s : State) (f : FeedId) : (s.acceptHealthy f).nv = s.nv := by
  unfold State.acceptHealthy
  dsimp only
  split
  · rfl
  · exact State.startWalk_nv _ f _ _

theorem State.pauseExpires_nv (s : State) (f : FeedId) : (s.pauseExpires f).nv = s.nv := by
  unfold State.pauseExpires
  split
  · exact (Walks.followLink _ f).nv
  · rfl

theorem State.resumeWalk_nv (s : State) (p : Port) (f : FeedId) : (s.resumeWalk p f).nv = s.nv := by
  unfold State.resumeWalk
  dsimp only
  split
  · exact (Walks.pauseOrLink (Walks.visitEntry f) _).nv
  · exact (Walks.resumeEntry _ f).nv
  all_goals rfl

/-! ## Requests at their owners -/

theorem State.whenRunning_nv {s : State} {act : State → State} (h : (act s).nv = s.nv) :
    (s.whenRunning act).nv = s.nv := by
  unfold State.whenRunning
  split
  · rfl
  · exact h

/-- An act whose guard may fail. -/
theorem State.ite_nv {s t : State} {c : Prop} [Decidable c] (h : t.nv = s.nv) : (if c then t else s).nv = s.nv := by
  split
  · exact h
  · rfl

/-- A request leaves the store as its owner leaves it. -/
theorem State.serve_nv (s : State) (i : Instr) {body : State → State × Reply} (h : ∀ u, (body u).1.nv = u.nv) :
    (s.serve i body).nv = s.nv := by
  have taken : ∀ p, (s.takeRequest p).nv = s.nv := fun p => State.ite_nv rfl
  unfold State.serve
  split
  · rfl
  · refine State.whenRunning_nv ?_
    split
    · rfl
    · split
      · rfl
      · dsimp only
        split
        · rw [State.respond_nv, h, taken]
        · rw [State.respond_nv, taken]

/-- A mask command leaves the store as its rule does (R9). -/
theorem maskCommand_nv (s : State) (p : Port) (c : Command) (mask : Half)
    {rule : DistrictId → State → State × Verdict} (h : ∀ d u, (rule d u).1.nv = u.nv) :
    (maskCommand p c mask rule s).1.nv = s.nv := by
  have acted : ∀ d u, (State.acted p c rule u d).nv = u.nv := fun d u => by
    unfold State.acted State.copyAfter
    split
    · rw [State.deferredCopy_nv]; exact h d u
    · exact h d u
  have turn : ∀ (t : Tally) d, (Tally.step p c rule t d).state.nv = t.state.nv := fun t d => by
    rw [Tally.step_eq]
    exact State.ite_nv (acted d _)
  exact foldl_keeps (read := fun t : Tally => t.state.nv) turn _ _

theorem enableRule_nv (d : DistrictId) (s : State) : (enableRule d s).1.nv = s.nv := by
  unfold enableRule
  split
  · split
    · exact State.nv_of_settings (State.returnToService_settings _ d)
    · rfl
  all_goals rfl

theorem clearRule_nv (d : DistrictId) (s : State) : (clearRule d s).1.nv = s.nv := by
  unfold clearRule
  split
  · exact State.nv_of_settings (State.returnToService_settings _ d)
  · rfl

theorem disableRule_nv (d : DistrictId) (s : State) : (disableRule d s).1.nv = s.nv := by
  unfold disableRule
  split
  · rfl
  · exact s.toOff_nv d

theorem holdRule_nv (p : Port) (d : DistrictId) (s : State) : (holdRule p d s).1.nv = s.nv := by
  unfold holdRule
  split
  · rfl
  · dsimp only
    split
    · rfl
    · exact State.toOff_nv _ d

theorem markRule_nv (test : District → Bool) (g : District → District) (d : DistrictId) (s : State) :
    (markRule test g d s).1.nv = s.nv := by
  unfold markRule
  split <;> rfl

/-- RELEASE-FOREIGN names a port, or is refused (R14). -/
theorem releaseForeign_nv (p : Port) (mask : Half) (named : Byte) (s : State) :
    (releaseForeign p mask named s).1.nv = s.nv := by
  unfold releaseForeign
  split
  · rfl
  · rw [releaseRule_eq]
    exact maskCommand_nv s p _ mask (markRule_nv _ _)

theorem feedCommand_nv {act : FeedId → State → State × Reply} (h : ∀ f u, (act f u).1.nv = u.nv) (number : Byte)
    (s : State) : (feedCommand number act s).1.nv = s.nv := by
  unfold feedCommand
  split
  · rfl
  · exact h _ s

/-- A command on a feed is accepted, or refused without effect (R116, R134). -/
theorem feedRule_nv {s t : State} (h : t.nv = s.nv) {c : Prop} [Decidable c] {accepted refused : Reply} :
    (if c then (t, accepted) else (s, refused)).1.nv = s.nv := by
  split
  · exact h
  · rfl

theorem State.readEvents_nv (p : Port) (count : Byte) (s : State) : (State.readEvents p count s).1.nv = s.nv := by
  unfold State.readEvents
  split <;> rfl

theorem State.readPortStatus_nv (p : Port) (option : Byte) (s : State) :
    (State.readPortStatus p option s).1.nv = s.nv := by
  unfold State.readPortStatus
  split
  · rfl
  · split <;> rfl

theorem State.setAttention_nv (p : Port) (trigger linger : Byte) (s : State) :
    (State.setAttention p trigger linger s).1.nv = s.nv := by
  unfold State.setAttention
  split <;> rfl

theorem State.writeDistrict_nv (number field : Byte) (value : Half) (s : State) :
    (State.writeDistrict number field value s).1.nv = s.nv := by
  unfold State.writeDistrict
  split
  · rfl
  · split <;> rfl

theorem State.writeFeed_nv (number field : Byte) (value : Half) (s : State) :
    (State.writeFeed number field value s).1.nv = s.nv := by
  unfold State.writeFeed
  split
  · rfl
  · split <;> rfl

theorem State.writeChainEntry_nv (index : Byte) (entry : EntryBytes) (s : State) :
    (State.writeChainEntry index entry s).1.nv = s.nv := by
  unfold State.writeChainEntry
  split <;> rfl

/-- One named district of APPLY (R148 to R150). -/
theorem ApplyTally.district_nv (p : Port) (named : Half) (t : ApplyTally) (d : DistrictId) :
    (t.district p named d).state.nv = t.state.nv := by
  have corrected := (CopyBeside.correct t.state named (.port p) d).nv
  unfold ApplyTally.district
  dsimp only
  split
  · exact corrected
  · exact (CopyBeside.copyDistrict _ d).nv.trans corrected

/-- One named feed of APPLY (R115, R153). -/
theorem ApplyTally.feed_nv (t : ApplyTally) (f : FeedId) : (t.feed f).state.nv = t.state.nv := by
  unfold ApplyTally.feed
  split
  · exact (Notices.copyFeed _ f).nv
  · rfl

theorem ApplyTally.districts_nv (p : Port) (named : Half) (ds : List DistrictId) (t : ApplyTally) :
    (ds.foldl (ApplyTally.district p named) t).state.nv = t.state.nv :=
  foldl_keeps (read := fun t : ApplyTally => t.state.nv) (ApplyTally.district_nv p named) ds t

theorem ApplyTally.feeds_nv (fs : List FeedId) (t : ApplyTally) : (fs.foldl ApplyTally.feed t).state.nv = t.state.nv :=
  foldl_keeps (read := fun t : ApplyTally => t.state.nv) ApplyTally.feed_nv fs t

theorem State.applySettings_nv (p : Port) (districts : Half) (feeds : Byte) (s : State) :
    (State.applySettings p districts feeds s).1.nv = s.nv := by
  have applied := (ApplyTally.feeds_nv (namedFeeds feeds) _).trans
    (ApplyTally.districts_nv p districts (namedDistricts districts) s.applyBegun)
  unfold State.applySettings
  split
  · rfl
  · dsimp only
    split <;> exact applied

theorem State.applyChains_nv (p : Port) (s : State) : (State.applyChains p s).1.nv = s.nv := by
  unfold State.applyChains
  split <;> rfl

/-! ## Every command -/

/-- A start of a part that is not writing finds the store as it was, and leaves it so (R170). -/
theorem State.startUp_nv {s : State} (idle : s.nv.writing = none) (pin : Bool) (pins : StartPins) :
    (s.startUp pin pins).nv = s.nv := Nv.cutOff_of_idle idle

/-- No command but SAVE, STORE_WRITE_END and a reset or start that cuts a write off changes the store. -/
theorem exec_keeps_nv (i : Instr) (s : State) (notSave : ∀ p, i ≠ .save p)
    (notEnd : ∀ matched, i ≠ .storeWriteEnd matched)
    (uncut : s.nv.writing = none ∨ i ≠ .resetAsserted ∧ (∀ pins, i ≠ .powerOn pins) ∧ ∀ pins, i ≠ .resetPin pins) :
    ∃ t, exec i s = .next t ∧ t.nv = s.nv := by
  have event : ∀ {act : State → State}, (act s).nv = s.nv →
      ∃ t, Host.Outcome.next (s.whenRunning act) = (.next t : Host.Outcome State Fault Refusal) ∧ t.nv = s.nv :=
    fun h => ⟨_, rfl, State.whenRunning_nv h⟩
  have served : ∀ (i : Instr) {body : State → State × Reply}, (∀ u, (body u).1.nv = u.nv) →
      ∃ t, Host.Outcome.next (s.serve i body) = (.next t : Host.Outcome State Fault Refusal) ∧ t.nv = s.nv :=
    fun i _ h => ⟨_, rfl, s.serve_nv i h⟩
  cases i with
  | powerOn pins => exact ⟨_, rfl, State.startUp_nv (uncut.resolve_right fun h => h.2.1 pins rfl) false pins⟩
  | resetPin pins => exact ⟨_, rfl, State.startUp_nv (uncut.resolve_right fun h => h.2.2 pins rfl) true pins⟩
  | resetAsserted => exact ⟨_, rfl, Nv.cutOff_of_idle (uncut.resolve_right fun h => h.1 rfl)⟩
  | save p => exact absurd rfl (notSave p)
  | storeWriteEnd matched => exact absurd rfl (notEnd matched)
  | sampleArrival d level => exact event (s.takeSample_nv d _)
  | coolDownExpiry d => exact event (State.ite_nv (State.nv_of_settings (s.join_settings _ d)))
  | settleExpiry d | deadTimeExpiry d => exact event (State.ite_nv rfl)
  | lineChange f level => exact event (s.lineChanges_nv f level)
  | debounceExpiry f => exact event (State.ite_nv (s.acceptHealthy_nv f))
  | pauseExpiry f => exact event (s.pauseExpires_nv f)
  | lingerExpiry p | interByteTimeout p | responseEnd p => exact event (State.ite_nv rfl)
  | rxByte p b stopBit => exact event rfl
  | readDistrict p n | readDistrictStats p n | readFeed p n | readQueue p n | readSettings p k n i
  | readChainEntry p n i | readSnapshot p n => exact served _ fun _ => rfl
  | readEvents p n => exact served _ (State.readEvents_nv p n)
  | readPortStatus p o => exact served _ (State.readPortStatus_nv p o)
  | setAttention p tr lg => exact served _ (State.setAttention_nv p tr lg)
  | enable p m => exact served _ fun u => maskCommand_nv u p _ m enableRule_nv
  | disable p m => exact served _ fun u => maskCommand_nv u p _ m disableRule_nv
  | hold p m => exact served _ fun u => maskCommand_nv u p _ m (holdRule_nv p)
  | release p m => exact served _ fun u => maskCommand_nv u p _ m (releaseRule_eq p ▸ markRule_nv _ _)
  | releaseForeign p m n => exact served _ (releaseForeign_nv p m n)
  | clear p m => exact served _ fun u => maskCommand_nv u p _ m clearRule_nv
  | markSeen p m => exact served _ fun u => maskCommand_nv u p _ m (markSeenRule_eq ▸ markRule_nv _ _)
  | resetStats p m => exact served _ fun u => maskCommand_nv u p _ m (resetStatsRule_eq ▸ markRule_nv _ _)
  | snapshot p | snapshotKeep p => exact served _ fun _ => rfl
  | setDistrict p n k v => exact served _ (State.writeDistrict_nv n k v)
  | setFeed p n k v => exact served _ (State.writeFeed_nv n k v)
  | setChainEntry p n en => exact served _ (State.writeChainEntry_nv n en)
  | apply p ds gs => exact served _ (State.applySettings_nv p ds gs)
  | applyChains p => exact served _ (State.applyChains_nv p)
  | cycleFeed p n => exact served _ (feedCommand_nv (fun f u => feedRule_nv (u.cycle_nv p f)) n)
  | haltWalk p n => exact served _ (feedCommand_nv (fun f u => feedRule_nv (Walks.haltWalk u f _ _).nv) n)
  | resumeWalk p n => exact served _ (feedCommand_nv (fun f u => feedRule_nv (u.resumeWalk_nv p f)) n)
  | endWalk p n => exact served _ (feedCommand_nv (fun f u => feedRule_nv (Walks.endWalk u f _ _).nv) n)
  | clearWalkErrors p n => exact served _ (feedCommand_nv (fun _ _ => rfl) n)

/-- Settles O16: the runs of SAVE followed by a start, and the commands that leave the store as it is. -/
theorem savedSettingsSurviveAReset : Obligations.SavedSettingsSurviveAReset :=
  ⟨runAll_save_start, exec_keeps_nv⟩

end Sys2Proof.Machine
end

section
/-! # State.reset is the POWER-ON start of a blank part, and meets every invariant (R172, log 1) -/

namespace Sys2Proof.Machine

/-! ## The start of a blank part -/

/-- The straps and inputs of `State.reset` (log 1): roles WATCH, FULL and OPERATE, AUTOST low, every input HEALTHY. -/
def resetPins : StartPins :=
  { roleA := 1, roleB := 3, roleC := 2, autost := false, flt0 := .healthy, flt1 := .healthy, flt2 := .healthy,
    flt3 := .healthy }

theorem blankNv_loaded : blankNv.loaded = defaultImage := Nv.loaded_of_erased rfl

theorem defaultImage_debounce (f : FeedId) : (defaultImage.feed f).debounce = 20 := by
  simp [defaultImage, Image.feed, defaultFeed]

/-- With AUTOST low every district starts OFF (R8). -/
theorem resetDistricts_off (image : Image) :
    image.districts.map (fun ds => resetDistrict (startState resetPins.autost ds)) =
      Vector.replicate 16 (resetDistrict .off) :=
  Vector.ext fun i hi => by simp [startState, resetPins]

/-- At HEALTHY inputs every feed starts its debounce timer with the default setting (R98). -/
theorem resetFeeds_healthy :
    Vector.ofFn (fun f : FeedId => resetFeed (faultInput resetPins f) (defaultImage.feed f).debounce) =
      Vector.replicate 4 (resetFeed .healthy 20) := by
  have healthy : ∀ f, faultInput resetPins f = .healthy := by decide
  exact Vector.ext fun i hi => by simp [healthy, defaultImage_debounce]

/-- `State.reset` before POWER-UP is appended (R172 step 4). -/
def State.beforePowerUp : State :=
  { State.reset with
    ring := resetRing
    ports := { a := resetPort .watch, b := resetPort .full, c := resetPort .operate } }

theorem State.cleared_of_blank {s : State} (blank : s.nv = blankNv) (empty : s.pending = []) :
    s.cleared resetPins = State.beforePowerUp := by
  rw [State.cleared, blank, empty, Nv.cutOff_of_idle rfl, blankNv_loaded, resetDistricts_off, resetFeeds_healthy]
  rfl

/-- A part whose store has never been written, powered on with these straps and inputs, is in `State.reset`. -/
theorem State.startUp_of_blank {s : State} (blank : s.nv = blankNv) (empty : s.pending = []) :
    s.startUp false resetPins = State.reset := by
  rw [State.startUp, State.cleared_of_blank blank empty]
  rfl

/-- `State.reset` is itself a start. -/
theorem State.reset_eq_startUp : State.reset.startUp false resetPins = State.reset := State.startUp_of_blank rfl rfl

/-! ## Its records -/

theorem State.reset_district (d : DistrictId) : State.reset.district d = resetDistrict .off := by
  simp [State.reset, State.district]

theorem State.reset_feed (f : FeedId) : State.reset.feed f = resetFeed .healthy 20 := by
  simp [State.reset, State.feed]

theorem resetDistrict_lawful : (resetDistrict .off).Lawful := by decide

theorem State.reset_districtsLawful : State.reset.DistrictsLawful := fun d => by
  rw [State.reset_district]
  exact ⟨resetDistrict_lawful, resetDistrict_lawful.fits_at_rest (.inl rfl) (Nat.zero_le _) (fun _ => rfl) nofun⟩

theorem State.reset_graceLaw : State.reset.GraceLaw := fun d grace => by
  rw [State.reset_district] at grace
  cases grace

theorem State.reset_feedsLawful : State.reset.FeedsLawful := fun f => by
  rw [State.reset_feed]
  exact resetFeed_lawful _ _

theorem State.reset_darkLaw : State.reset.DarkLaw := fun d => by
  rw [State.reset_district]
  exact ⟨fun _ => .inl rfl, fun _ => nofun⟩

theorem State.reset_waitingLaw : State.reset.WaitingLaw := by
  refine ⟨fun d waits => ?_, fun f waits => ?_, nofun⟩
  · rw [State.reset_district] at waits
    cases waits
  · rw [State.reset_feed] at waits
    cases waits

/-- The queues, pools and slots of a start are those of `State.reset`. -/
theorem State.reset_balanced : State.reset.Balanced :=
  State.reset_eq_startUp ▸ State.Balanced.startUp State.reset false resetPins

theorem State.reset_settingsLawful : State.reset.SettingsLawful :=
  ⟨defaultImage_workable.1, defaultImage_workable, nofun, rfl⟩

theorem State.reset_portsLawful : State.reset.PortsLawful :=
  State.reset.portLaw_iff.1 (State.reset_eq_startUp ▸ State.startUp_portLaw State.reset false resetPins)

/-- Settles O59: the records of `State.reset` one kind after the other, and the start they come from. -/
theorem theResetStateIsALawfulBlankStart : Obligations.TheResetStateIsALawfulBlankStart :=
  ⟨State.reset_districtsLawful, State.reset_graceLaw, State.reset_feedsLawful, State.reset_darkLaw,
    State.reset_balanced.queue, State.reset_balanced.pool, State.reset_waitingLaw, State.reset_settingsLawful,
    State.reset_portsLawful, fun _ blank empty => congrArg Host.Outcome.next (State.startUp_of_blank blank empty)⟩

end Sys2Proof.Machine
end

section
/-! # A step on a queue that is not empty (log 4) -/

namespace Sys2Proof.Machine

/-- Settles O1: with a command in front, `step` is in its first case, and the queue it leaves is the rest. -/
theorem stepTakesTheFrontCommand : Obligations.StepTakesTheFrontCommand := by
  intro c rest s front
  simp only [step, front]

end Sys2Proof.Machine
end
